-- ==== Sys2Proof/Word.lean ====
section
/-! DEFINITION. The bit vectors the spec names, and the ordered set of six coefficients. -/

namespace Sys2Proof

/-- One byte of a frame as it is moved (20_memory.md R42). -/
abbrev Byte := BitVec 8

/-- One calibration coefficient: `W_COEF`, 16 bits, unsigned (00_scope.md R10). -/
abbrev Coef := BitVec 16

/-- One raw ADC sample: `W_RAW`, 24 bits, unsigned (00_scope.md R10). -/
abbrev Sample := BitVec 24

/-- A 32-bit two's-complement field: `W_DT` and `W_RES` (00_scope.md R10). -/
abbrev Word32 := BitVec 32

/-- A request frame `REQ`, 176 bits, bit 0 least significant (30_encoding.md R60, 00_scope.md R11). -/
abbrev Frame := BitVec 176

/-- A response frame `RESP`, 128 bits (10_state.md R20, R21). -/
abbrev RespFrame := BitVec 128

/-- The six coefficients C1..C6, "ordered sequence of 6 unsigned 16-bit values, indices 1..6"
(00_scope.md R10, 30_encoding.md R61). -/
structure Coefs where
  c1 : Coef
  c2 : Coef
  c3 : Coef
  c4 : Coef
  c5 : Coef
  c6 : Coef
deriving DecidableEq, Repr

end Sys2Proof
end

