-- ==== Sys2Proof/Config.lean ====
section
/-! DEFINITION. The implementation parameters of 00_scope.md R10: the fixed ones with their values, and the one
open parameter, LATENCY. The widths of R10 are the types of Word.lean. -/

namespace Sys2Proof.Config

/-- `T_OFFSET` (00_scope.md R10): the centi-degrees at `dT = 0`. -/
abbrev tOffset : Int := 2000

/-- `T_SHIFT` (00_scope.md R10): 2^23, the divisor of `dT × C6`. -/
abbrev tScale : Int := 8388608

/-- The scale of C5 in `dT` (41_temperature.md R110). -/
abbrev c5Scale : Int := 256

/-- The scale of C2 in `OFF` (42_pressure.md R120). -/
abbrev c2Scale : Int := 65536

/-- The scale of C1 in `SENS` (42_pressure.md R120). -/
abbrev c1Scale : Int := 32768

/-- The divisor of `C4 × dT` (42_pressure.md R120). -/
abbrev offDiv : Int := 128

/-- The divisor of `C3 × dT` (42_pressure.md R120). -/
abbrev sensDiv : Int := 256

/-- The divisor of `D1 × SENS`: 2^21 (42_pressure.md R120). -/
abbrev sampleDiv : Int := 2097152

/-- The divisor of `num`: 2^15 (42_pressure.md R120). -/
abbrev pressDiv : Int := 32768

/-- `LATENCY` (00_scope.md R10, 70_reset_and_hazards.md R180), the time from the submission of the n-th request to its
response: "not modelled; any finite value", and it "may differ from request to request" (93_implementation_defined.md
I40). A constant without a body: no proof can see a value of it. No rule depends on it, so no definition reads it
(log entry 7). -/
opaque latency : Nat → Nat

end Sys2Proof.Config
end

