-- ==== Sys2Proof/Syntax.lean ====
section
/-! DEFINITION. The abstract requests: one constructor per row of spec/opcode_table.json (30_encoding.md R62, R65).
Every operand type is exactly as wide as its field of the frame, and every value of every operand field is legal
(30_encoding.md R63), so a term of `Instr` cannot be ill formed; what can be is a raw frame (WellFormed.lean). -/

namespace Sys2Proof

/-- An abstract request (30_encoding.md R65). -/
inductive Instr where
  /-- `CTEMP v, c1..c6, d2` (41_temperature.md R110). -/
  | ctemp (calv : Bool) (cal : Coefs) (d2 : Sample)
  /-- `CPRES v, c1..c6, d1, dt` (42_pressure.md R120). -/
  | cpres (calv : Bool) (cal : Coefs) (d1 : Sample) (dt : Word32)
deriving DecidableEq, Repr

end Sys2Proof
end

