-- ==== Sys2Proof/WellFormed.lean ====
section
/-! DEFINITION. The raw fields of a request frame (30_encoding.md R61), the four checks of its legality (R64), and the
names of the causes of illegality (R66). -/

namespace Sys2Proof

/-- A request frame cut into the fields of 30_encoding.md R61, before anything is checked. -/
structure Req where
  op   : BitVec 8
  rsv  : BitVec 7
  calv : Bool
  cal  : Coefs
  dz   : BitVec 8
  d    : Sample
  dt   : Word32
deriving DecidableEq, Repr

/-- `OP = 0x01 or OP = 0x02` (30_encoding.md R64, R62). -/
def Req.opLegal (r : Req) : Bool := r.op == 0x01#8 || r.op == 0x02#8

/-- `RSV = 0000000` (30_encoding.md R64). -/
def Req.rsvLegal (r : Req) : Bool := r.rsv == 0#7

/-- `DZ = 0x00`: the sample fits 24 bits (30_encoding.md R64, R66). -/
def Req.dzLegal (r : Req) : Bool := r.dz == 0#8

/-- `OP = 0x01 implies DT = 0x00000000` (30_encoding.md R64). -/
def Req.dtLegal (r : Req) : Bool := r.op != 0x01#8 || r.dt == 0#32

/-- `legal(REQ)` (30_encoding.md R64): `CALV` and the coefficient fields take no part in it. -/
def Req.legal (r : Req) : Bool := r.opLegal && r.rsvLegal && r.dzLegal && r.dtLegal

/-- Why a frame is illegal: the four causes of 30_encoding.md R66. The engine records none of them (60_exceptions.md
R140), so the name is for the reader of the decoder only (log entry 10). -/
inductive IllegalCause where
  /-- `OP` outside 0x01, 0x02. -/
  | opcode
  /-- A nonzero `RSV` bit. -/
  | reserved
  /-- A nonzero `DZ`: a sample that does not fit 24 bits. -/
  | sampleTooWide
  /-- A `CTEMP` frame with a nonzero `DT` field. -/
  | strayDelta
deriving DecidableEq, Repr

end Sys2Proof
end

