-- ==== Sys2Proof/Decode.lean ====
section
/-! DEFINITION. Decoding of request frames (30_encoding.md R61, R63 to R66), total on all 2^176 frames, and after it
the encoder (R67) and the match and mask rows of R64. -/

namespace Sys2Proof

/-- The fields of a frame, by the bit positions of 30_encoding.md R61. Nothing is scaled or extended (R63). -/
def Req.ofFrame (f : Frame) : Req where
  op   := f.extractLsb' 168 8
  rsv  := f.extractLsb' 161 7
  calv := f.getLsbD 160
  cal  := { c1 := f.extractLsb' 144 16
            c2 := f.extractLsb' 128 16
            c3 := f.extractLsb' 112 16
            c4 := f.extractLsb' 96 16
            c5 := f.extractLsb' 80 16
            c6 := f.extractLsb' 64 16 }
  dz   := f.extractLsb' 56 8
  d    := f.extractLsb' 32 24
  dt   := f.extractLsb' 0 32

/-- The answer of the decoder: 30_encoding.md R65's abstract request, or its `Illegal` with the cause by name. -/
inductive Decoded where
  | request (i : Instr)
  | illegal (c : IllegalCause)
deriving DecidableEq, Repr

/-- `decode` of 30_encoding.md R65 on the fields. -/
def decodeReq (r : Req) : Decoded :=
  if r.op ≠ 0x01#8 ∧ r.op ≠ 0x02#8 then .illegal .opcode
  else if r.rsv ≠ 0#7 then .illegal .reserved
  else if r.dz ≠ 0#8 then .illegal .sampleTooWide
  else if r.op = 0x01#8 then
    if r.dt ≠ 0#32 then .illegal .strayDelta else .request (.ctemp r.calv r.cal r.d)
  else .request (.cpres r.calv r.cal r.d r.dt)

/-- `decode` of 30_encoding.md R65, total on every frame. -/
def decode (f : Frame) : Decoded := decodeReq (Req.ofFrame f)

/-- The frame with the given fields, most significant first (30_encoding.md R61). -/
def Req.toFrame (r : Req) : Frame :=
  r.op ++ r.rsv ++ BitVec.ofBool r.calv ++ r.cal.c1 ++ r.cal.c2 ++ r.cal.c3 ++ r.cal.c4 ++ r.cal.c5 ++ r.cal.c6
    ++ r.dz ++ r.d ++ r.dt

/-- The fields of an abstract request's one legal frame (30_encoding.md R67). -/
def Instr.toReq : Instr → Req
  | .ctemp calv cal d2    => { op := 0x01#8, rsv := 0#7, calv := calv, cal := cal, dz := 0#8, d := d2, dt := 0#32 }
  | .cpres calv cal d1 dt => { op := 0x02#8, rsv := 0#7, calv := calv, cal := cal, dz := 0#8, d := d1, dt := dt }

/-- The canonical encoding (30_encoding.md R67). -/
def encode (i : Instr) : Frame := i.toReq.toFrame

/-- A row of the opcode table as match and mask (30_encoding.md R64, opcode_table.json). -/
structure Row where
  mask    : Frame
  pattern : Frame
deriving DecidableEq, Repr

/-- `(REQ and mask) = match` (30_encoding.md R64). -/
def Row.selects (row : Row) (f : Frame) : Bool := f &&& row.mask == row.pattern

/-- The `CTEMP` row of 30_encoding.md R64. -/
def ctempRow : Row where
  mask    := 0xFFFE000000000000000000000000FF000000FFFFFFFF#176
  pattern := 0x01000000000000000000000000000000000000000000#176

/-- The `CPRES` row of 30_encoding.md R64. -/
def cpresRow : Row where
  mask    := 0xFFFE000000000000000000000000FF00000000000000#176
  pattern := 0x02000000000000000000000000000000000000000000#176

/-- The frame that a number of the opcode table stands for: the table numbers the 176 bits of the one word of a
request, bit 0 least significant, and every bit from `nbits` up is 0 (log entry 6). -/
def tableFrame (nbits w : Nat) : Frame := BitVec.ofNat 176 (w % 2 ^ nbits)

/-- The instruction the decoder reads from the table's number `w`. -/
def decodeTableWord (nbits w : Nat) : Option Instr :=
  match decode (tableFrame nbits w) with
  | .request i => some i
  | .illegal _ => none

end Sys2Proof
end

