-- ==== Sys2Proof/Machine/State.lean ====
section
/-! DEFINITION. The state of the machine: the one register the spec gives it, and the moves of the requester and the
host that reach it. -/

namespace Sys2Proof.Machine

/-- One move of the requester or the host (00_scope.md R14): submit one request frame, read `RESP`, assert reset.
Only a whole frame is a request (20_memory.md R44), so a partial one is no event. -/
inductive Event where
  /-- Submit one whole request frame. -/
  | submit (f : Frame)
  /-- Read all 128 bits of `RESP` (10_state.md R31). -/
  | read
  /-- Reset of the engine, an event of the host and not a request (70_reset_and_hazards.md R170). -/
  | reset
deriving DecidableEq, Repr

/-- The state. `resp` is the whole architectural state of the engine (10_state.md R20). The two lists are the model's
own: they are the engine's outside (log entries 1 and 2), and no meaning reads them. -/
structure State where
  /-- `RESP` (10_state.md R21). -/
  resp : RespFrame
  /-- The events of the run still to come, oldest first (70_reset_and_hazards.md R179). -/
  events : List Event
  /-- What the requester's reads of `RESP` have returned, oldest first (10_state.md R31). -/
  readings : List RespFrame
deriving DecidableEq, Repr

/-- The reasons a step could stop the machine with a fault: none. "The engine cannot be stuck and cannot hang"
(70_reset_and_hazards.md R179), and an error is a response, not a stop (60_exceptions.md R146). That the type is empty
is safe: it lets no step stop that the spec lets go on, and the spec lets every step go on (log entry 8). -/
inductive Fault where
deriving DecidableEq, Repr

/-- The reasons a step could be refused. -/
inductive Refusal where
  /-- The instruction has no meaning in the model yet. Raised by an arm of `exec` only; no arm raises it now. Safe: a
  refused step proves nothing about a next state. -/
  | notModelled (mnemonic : String)
deriving DecidableEq, Repr

/-- The machine right after reset: `RESP` all zero (10_state.md R30), no event to come and nothing read (DESIGN CHOICE,
log entries 1 and 2). -/
def State.reset : State := { resp := 0#128, events := [], readings := [] }

end Sys2Proof.Machine
end

