-- ==== Sys2Proof/Machine/Operands.lean ====
section
/-! DEFINITION. The number interpretations of operand and result fields (00_scope.md R12, 30_encoding.md R63). -/

namespace Sys2Proof.Machine

/-- `uint(b)`: the non-negative integer a bit vector denotes (00_scope.md R12). An unsigned operand enters a signed
formula as this value and is never reinterpreted as negative (40_arithmetic.md R94). -/
def uint {n : Nat} (b : BitVec n) : Int := (b.toNat : Int)

/-- `sint_32(b)`: the two's-complement value, `uint(b)` if `b[31] = 0`, else `uint(b) - 2^32` (00_scope.md R12). -/
def sint32 (b : Word32) : Int := if b.getLsbD 31 then uint b - 4294967296 else uint b

/-- `to_s32(v)`: the 32-bit vector with `sint_32` of it `v`, for `v` in -2^31..2^31-1 (00_scope.md R12). It is never
applied outside that range (40_arithmetic.md R98, log entry 12). -/
def toS32 (v : Int) : Word32 := BitVec.ofInt 32 v

end Sys2Proof.Machine
end

