-- ==== Sys2Proof/Machine/Arith.lean ====
section
/-! DEFINITION. The integer arithmetic both operations share (40_arithmetic.md): everything is exact on `Int` (R90), and
the one division truncates toward zero (R91). -/

namespace Sys2Proof.Machine

/-- `tdiv(a, n)` (40_arithmetic.md R91): `floor(a / n)` if `a ≥ 0`, else `-floor((-a) / n)`. For a positive divisor
Lean's `/` on `Int` is the floor. -/
def tdiv (a n : Int) : Int := if 0 ≤ a then a / n else -((-a) / n)

/-- The temperature delta `dT = D2 - C5 × 256` (41_temperature.md R110). -/
def tempDelta (c5 : Coef) (d2 : Sample) : Int := uint d2 - uint c5 * Config.c5Scale

/-- `T = 2000 + tdiv(dT × C6, 2^23)` (41_temperature.md R110). -/
def temperature (c6 : Coef) (dT : Int) : Int := Config.tOffset + tdiv (dT * uint c6) Config.tScale

/-- `OFF = C2 × 65536 + tdiv(C4 × dT, 128)` (42_pressure.md R120). -/
def pressOff (c2 c4 : Coef) (dT : Int) : Int := uint c2 * Config.c2Scale + tdiv (uint c4 * dT) Config.offDiv

/-- `SENS = C1 × 32768 + tdiv(C3 × dT, 256)` (42_pressure.md R120). -/
def pressSens (c1 c3 : Coef) (dT : Int) : Int := uint c1 * Config.c1Scale + tdiv (uint c3 * dT) Config.sensDiv

/-- `q = tdiv(D1 × SENS, 2^21)`: the product first, in full, and divided once (40_arithmetic.md R99). -/
def pressQuot (d1 : Sample) (sens : Int) : Int := tdiv (uint d1 * sens) Config.sampleDiv

/-- `P = tdiv(q - OFF, 2^15)` (42_pressure.md R120). -/
def pressure (cal : Coefs) (d1 : Sample) (dT : Int) : Int :=
  tdiv (pressQuot d1 (pressSens cal.c1 cal.c3 dT) - pressOff cal.c2 cal.c4 dT) Config.pressDiv

end Sys2Proof.Machine
end

