-- ==== Sys2Proof/Machine/Flags.lean ====
section
/-! DEFINITION. The flag-like state of the engine: STATUS, TV and PV of RESP (10_state.md R22, R23, R33). There is no
carry, overflow, zero or sign flag to compute. -/

namespace Sys2Proof.Machine

/-- The four values of `STATUS` (10_state.md R22). -/
inductive Status where
  /-- No request has been executed since reset. -/
  | none
  /-- The most recent request was executed and its result fields are valid. -/
  | ok
  /-- The most recent request was legal and had `CALV = 0`. -/
  | errNotCalibrated
  /-- The most recent request frame was not a legal encoding. -/
  | errIllegal
deriving DecidableEq, Repr

/-- The code values (10_state.md R22). -/
def Status.code : Status → BitVec 8
  | .none             => 0x00#8
  | .ok               => 0x01#8
  | .errNotCalibrated => 0x02#8
  | .errIllegal       => 0x03#8

/-- Which result group a response holds (10_state.md R23): `TV` for `T` and `DT`, `PV` for `P`. -/
structure Valid where
  tv : Bool
  pv : Bool
deriving DecidableEq, Repr

/-- After a successful `CTEMP`: `TV = 1`, `PV = 0` (10_state.md R23). -/
def Valid.temp : Valid := { tv := true, pv := false }

/-- After a successful `CPRES`: `TV = 0`, `PV = 1` (10_state.md R23). -/
def Valid.press : Valid := { tv := false, pv := true }

/-- After reset and after an error: both 0 (10_state.md R25). -/
def Valid.nothing : Valid := { tv := false, pv := false }

end Sys2Proof.Machine
end

