-- ==== Sys2Proof/Machine/Ops.lean ====
section
/-! DEFINITION. The named operations over RESP and over the events: building and reading a response, raising an error,
reset, reading, and taking the next event. -/

namespace Sys2Proof.Machine

/-! ### The response frame -/

/-- `resp(status, tv, pv, t, dt, p)` (10_state.md R21). -/
def mkResp (st : Status) (v : Valid) (t dt p : Int) : RespFrame :=
  st.code ++ 0#6 ++ BitVec.ofBool v.pv ++ BitVec.ofBool v.tv ++ 0#16 ++ toS32 t ++ toS32 dt ++ toS32 p

/-- `resp(OK, 1, 0, t, dt, 0)`: a successful `CTEMP` (41_temperature.md R110). -/
def tempResp (t dt : Int) : RespFrame := mkResp .ok .temp t dt 0

/-- `resp(OK, 0, 1, 0, 0, p)`: a successful `CPRES` (42_pressure.md R120). -/
def pressResp (p : Int) : RespFrame := mkResp .ok .press 0 0 p

/-- `resp(E, 0, 0, 0, 0, 0)`: an error response (60_exceptions.md R146), and with `NONE` the reset frame
(10_state.md R30). -/
def bareResp (st : Status) : RespFrame := mkResp st .nothing 0 0 0

/-- `STATUS`, `RESP[127:120]` (10_state.md R21). -/
def respStatus (r : RespFrame) : BitVec 8 := r.extractLsb' 120 8

/-- `VZ`, `RESP[119:114]` (10_state.md R21). -/
def respVZ (r : RespFrame) : BitVec 6 := r.extractLsb' 114 6

/-- `PV`, `RESP[113]` (10_state.md R21). -/
def respPV (r : RespFrame) : Bool := r.getLsbD 113

/-- `TV`, `RESP[112]` (10_state.md R21). -/
def respTV (r : RespFrame) : Bool := r.getLsbD 112

/-- `RZ`, `RESP[111:96]` (10_state.md R21). -/
def respRZ (r : RespFrame) : BitVec 16 := r.extractLsb' 96 16

/-- `T`, `RESP[95:64]` (10_state.md R21). -/
def respT (r : RespFrame) : Word32 := r.extractLsb' 64 32

/-- `DT`, `RESP[63:32]` (10_state.md R21). -/
def respDT (r : RespFrame) : Word32 := r.extractLsb' 32 32

/-- `P`, `RESP[31:0]` (10_state.md R21). -/
def respP (r : RespFrame) : Word32 := r.extractLsb' 0 32

/-! ### Writing RESP -/

/-- `RESP <- frame`: all 128 bits at once (10_state.md R31, 20_memory.md R45). -/
def State.writeResp (s : State) (r : RespFrame) : State := { s with resp := r }

/-- `raise E` (60_exceptions.md R146): the error response replaces `RESP`, and nothing else happens. There is no return
from it, "because there is nothing to return from" (R147). -/
def State.raise (s : State) (e : Status) : State := s.writeResp (bareResp e)

/-- A submitted frame that is not legal (30_encoding.md R66, 60_exceptions.md R141). The cause is not recorded (R140). -/
def takeIllegal (_cause : IllegalCause) (s : State) : Host.Outcome State Fault Refusal := .next (s.raise .errIllegal)

/-! ### The events -/

/-- Reset (70_reset_and_hazards.md R170): "Its whole effect is `RESP <- resp(NONE, 0, 0, 0, 0, 0)`". -/
def takeReset (s : State) : Host.Outcome State Fault Refusal := .next (s.writeResp (bareResp .none))

/-- What a read of `RESP` returns: all 128 bits as they stand (10_state.md R31). -/
def State.readResp (s : State) : RespFrame := s.resp

/-- A read of `RESP` by the requester: no side effect on the engine (10_state.md R31, 20_memory.md R46); what it
returned is kept in the model's own list. -/
def takeRead (s : State) : Host.Outcome State Fault Refusal := .next { s with readings := s.readings ++ [s.readResp] }

/-- The next event and the state without it: events are taken in the order of submission (20_memory.md R47). -/
def State.nextEvent (s : State) : Option (Event × State) :=
  match s.events with
  | []      => none
  | e :: es => some (e, { s with events := es })

/-- No event to come: the engine stays ready and `RESP` stays as it is (DEDUCED from 70_reset_and_hazards.md R179 and
10_state.md R31, log entry 3). -/
def idle (s : State) : Host.Outcome State Fault Refusal := .next s

/-- Put one event where the machine takes its next one. -/
def State.present (s : State) (e : Event) : State := { s with events := e :: s.events }

/-- Submit an event behind those already submitted (20_memory.md R47). -/
def State.submit (s : State) (e : Event) : State := { s with events := s.events ++ [e] }

end Sys2Proof.Machine
end

