-- ==== Sys2Proof/Machine/Pressure.lean ====
section
/-! DEFINITION. The meaning of CPRES (42_pressure.md). -/

namespace Sys2Proof.Machine

/-- `CPRES` on a legal frame (42_pressure.md R120): not calibrated is refused before any arithmetic (60_exceptions.md
R142, R145); otherwise `P` is answered, from the `dT` the frame carries whatever it is (42_pressure.md R121). C5 and C6
are not read. -/
def execCpres (calv : Bool) (cal : Coefs) (d1 : Sample) (dt : Word32) (s : State) :
    Host.Outcome State Fault Refusal :=
  if calv then .next (s.writeResp (pressResp (pressure cal d1 (sint32 dt))))
  else .next (s.raise .errNotCalibrated)

end Sys2Proof.Machine
end

