-- ==== Sys2Proof/Machine/Temperature.lean ====
section
/-! DEFINITION. The meaning of CTEMP (41_temperature.md). -/

namespace Sys2Proof.Machine

/-- `CTEMP` on a legal frame (41_temperature.md R110): not calibrated is refused before any arithmetic (60_exceptions.md
R142, R145); otherwise `T` and `dT` are answered. C1..C4 are not read. -/
def execCtemp (calv : Bool) (cal : Coefs) (d2 : Sample) (s : State) : Host.Outcome State Fault Refusal :=
  if calv then
    .next (s.writeResp (tempResp (temperature cal.c6 (tempDelta cal.c5 d2)) (tempDelta cal.c5 d2)))
  else .next (s.raise .errNotCalibrated)

end Sys2Proof.Machine
end

