-- ==== Sys2Proof/Machine/Dispatch.lean ====
section
/-! DEFINITION. One arm per constructor of Instr, each a direct call of its meaning. -/

namespace Sys2Proof.Machine

/-- The effect of an abstract request (30_encoding.md R62). -/
def exec (i : Instr) (s : State) : Host.Outcome State Fault Refusal :=
  match i with
  | .ctemp calv cal d2 => Sys2Proof.Machine.execCtemp calv cal d2 s
  | .cpres calv cal d1 dt => Sys2Proof.Machine.execCpres calv cal d1 dt s

end Sys2Proof.Machine
end

