-- ==== Sys2Proof/Machine/Step.lean ====
section
/-! DEFINITION. One step of the machine: the next event of the run, executed whole (20_memory.md R45, R47). -/

namespace Sys2Proof.Machine

/-- A submitted frame is decoded at the moment it is executed (20_memory.md R49); legality is checked first
(60_exceptions.md R145). -/
def execFrame (f : Frame) (s : State) : Host.Outcome State Fault Refusal :=
  match decode f with
  | .request i => exec i s
  | .illegal c => takeIllegal c s

/-- The effect of one event (00_scope.md R14). -/
def takeEvent (e : Event) (s : State) : Host.Outcome State Fault Refusal :=
  match e with
  | .submit f => execFrame f s
  | .read     => takeRead s
  | .reset    => takeReset s

/-- One step: the oldest event to come is taken and executed; with none to come the engine stays ready. -/
def step (s : State) : Host.Outcome State Fault Refusal :=
  match s.nextEvent with
  | none         => idle s
  | some (e, s') => takeEvent e s'

/-- `s` with the table's number `w` as the frame the next step executes (log entries 5 and 6). -/
def State.withFetchWord (s : State) (nbits w : Nat) : State := s.present (.submit (tableFrame nbits w))

end Sys2Proof.Machine
end

