-- ==== Sys2Proof/Machine/Bytes.lean ====
section
/-! DEFINITION. Frames as bytes: offset 0 is the most significant byte and goes first, and every multi-byte field is
big-endian (00_scope.md R11, 20_memory.md R42); how the bytes of a sample and of a coefficient make the operand (R43);
what becomes of a partial frame (R44). -/

namespace Sys2Proof.Machine

/-- The byte at offset `k` of an `n`-byte frame: `F[8(n-k)-1 : 8(n-k-1)]` (00_scope.md R11). -/
def byteAt {w : Nat} (n k : Nat) (F : BitVec w) : Byte := F.extractLsb' (8 * (n - k - 1)) 8

/-- The 22 bytes of a request frame, offset 0 first (20_memory.md R42). -/
def frameBytes (f : Frame) : List Byte := (List.range 22).map (fun k => byteAt 22 k f)

/-- The 16 bytes of a response frame, offset 0 first (20_memory.md R42). -/
def respBytes (r : RespFrame) : List Byte := (List.range 16).map (fun k => byteAt 16 k r)

/-- The number a big-endian byte sequence denotes (20_memory.md R42). -/
def bytesToNat (bs : List Byte) : Nat := bs.foldl (fun a b => a * 256 + b.toNat) 0

/-- The request frame that a byte sequence is: exactly 22 bytes, nothing shorter (20_memory.md R44) and, since there is
one request length (30_encoding.md R60), nothing longer. -/
def frameOfBytes (bs : List Byte) : Option Frame :=
  if bs.length = 22 then some (BitVec.ofNat 176 (bytesToNat bs)) else none

/-- Submit a byte sequence: a whole frame is a request, anything else "cause[s] no step" (20_memory.md R44). -/
def State.submitBytes (s : State) (bs : List Byte) : State :=
  match frameOfBytes bs with
  | some f => s.submit (.submit f)
  | none   => s

/-- A raw sample from the three bytes the sensor sends: `b0×65536 + b1×256 + b2` (20_memory.md R43). -/
def sampleOfBytes (b0 b1 b2 : Byte) : Sample := BitVec.ofNat 24 (b0.toNat * 65536 + b1.toNat * 256 + b2.toNat)

/-- A coefficient from the two bytes the sensor sends: `(b0×256 + b1) mod 65536` (20_memory.md R43). -/
def coefOfBytes (b0 b1 : Byte) : Coef := BitVec.ofNat 16 ((b0.toNat * 256 + b1.toNat) % 65536)

end Sys2Proof.Machine
end

