-- ==== Sys2Proof/Machine/Requester.lean ====
section
/-! DEFINITION. The requester's macro READP (30_encoding.md R71): two requests, the `DT` of the first response copied into
the second frame by the requester. The engine never sees READP. -/

namespace Sys2Proof.Machine

/-- The second request of a reading: `CPRES v, cal, d1, sint_32(RESP.DT)`, the copy "bit for bit"
(30_encoding.md R71, 41_temperature.md R114). -/
def forwardDelta (calv : Bool) (cal : Coefs) (d1 : Sample) (resp : RespFrame) : Frame :=
  encode (.cpres calv cal d1 (respDT resp))

/-- `READP v, cal, d2, d1` at the port: `CTEMP`; the requester reads `RESP` and, if `STATUS ≠ OK`, stops with that
error; `CPRES` with the forwarded `DT` (30_encoding.md R71). Each request is the next event the machine takes
(log entry 13). -/
def readp (calv : Bool) (cal : Coefs) (d2 d1 : Sample) (s : State) : Host.Outcome State Fault Refusal :=
  match step (s.present (.submit (encode (.ctemp calv cal d2)))) with
  | .next s' =>
    if respStatus s'.readResp = Status.ok.code then step (s'.present (.submit (forwardDelta calv cal d1 s'.readResp)))
    else .next s'
  | .fault r => .fault r
  | .refused r => .refused r

end Sys2Proof.Machine
end

