-- ==== Sys2Proof/Machine/Assembler.lean ====
section
/-! DEFINITION. The assembler notation of 30_encoding.md R70 and R71. It is the requester's: the engine sees frames only.
What R70 leaves open of the notation (white space, the case of hexadecimal digits) is chosen in log entry 11. -/

namespace Sys2Proof.Machine

/-! ### Operands and their ranges -/

/-- An integer as written: a sign and a magnitude. -/
structure Numeral where
  neg : Bool
  mag : Nat
deriving DecidableEq, Repr

/-- The integer a numeral denotes. -/
def Numeral.value (x : Numeral) : Int := if x.neg then -(x.mag : Int) else x.mag

/-- An unsigned operand of `n` bits: "An operand out of its range is an assembler error", and a leading `-` stands only
where negative values are allowed (30_encoding.md R70). -/
def asmUnsigned (n : Nat) (x : Numeral) : Option (BitVec n) :=
  if x.neg = false ∧ x.mag < 2 ^ n then some (BitVec.ofNat n x.mag) else none

/-- The operand `v`: 0 or 1 (30_encoding.md R70). -/
def asmFlag (x : Numeral) : Option Bool :=
  if x.neg then none
  else match x.mag with
    | 0 => some false
    | 1 => some true
    | _ => none

/-- The operand `dt`: an integer -2147483648..2147483647 (30_encoding.md R70). -/
def asmSigned32 (x : Numeral) : Option Word32 :=
  if -2147483648 ≤ x.value ∧ x.value ≤ 2147483647 then some (toS32 x.value) else none

/-- The six operands `c1..c6`, each 0..65535 (30_encoding.md R70). -/
def asmCoefs (x1 x2 x3 x4 x5 x6 : Numeral) : Option Coefs :=
  match asmUnsigned 16 x1, asmUnsigned 16 x2, asmUnsigned 16 x3, asmUnsigned 16 x4, asmUnsigned 16 x5,
    asmUnsigned 16 x6 with
  | some c1, some c2, some c3, some c4, some c5, some c6 =>
    some { c1 := c1, c2 := c2, c3 := c3, c4 := c4, c5 := c5, c6 := c6 }
  | _, _, _, _, _, _ => none

/-- `CTEMP v, c1..c6, d2` (30_encoding.md R70). -/
def asmCtemp (v : Numeral) (cal : Coefs) (d2 : Numeral) : Option Instr :=
  match asmFlag v, asmUnsigned 24 d2 with
  | some calv, some d => some (.ctemp calv cal d)
  | _, _ => none

/-- `CPRES v, c1..c6, d1, dt` (30_encoding.md R70). -/
def asmCpres (v : Numeral) (cal : Coefs) (d1 dt : Numeral) : Option Instr :=
  match asmFlag v, asmUnsigned 24 d1, asmSigned32 dt with
  | some calv, some d, some t => some (.cpres calv cal d t)
  | _, _, _ => none

/-! ### Text -/

/-- The parts of a text between separators. -/
def splitAt (sep : Char) : List Char → List (List Char)
  | [] => [[]]
  | c :: cs =>
    if c = sep then [] :: splitAt sep cs
    else match splitAt sep cs with
      | [] => [[c]]
      | l :: ls => (c :: l) :: ls

/-- A space or a tab. -/
def isBlank (c : Char) : Bool := c == ' ' || c == '\t'

/-- A text without blanks at its ends. -/
def trim (cs : List Char) : List Char := ((cs.dropWhile isBlank).reverse.dropWhile isBlank).reverse

/-- The words of a text, parted by blanks. -/
def wordsOf (cs : List Char) : List (List Char) :=
  (splitAt ' ' (cs.map (fun c => if isBlank c then ' ' else c))).filter (fun w => !w.isEmpty)

/-- The value of a digit in a base up to 16. -/
def digitOf (base : Nat) (c : Char) : Option Nat :=
  let n := c.toNat
  let v := if 48 ≤ n ∧ n ≤ 57 then n - 48
    else if 65 ≤ n ∧ n ≤ 70 then n - 55
    else if 97 ≤ n ∧ n ≤ 102 then n - 87
    else 16
  if v < base then some v else none

/-- The number digits write in a base, most significant first, after the number `acc`. -/
def digitsFrom (base : Nat) (acc : Nat) : List Char → Option Nat
  | [] => some acc
  | c :: cs => match digitOf base c with
    | some v => digitsFrom base (acc * base + v) cs
    | none => none

/-- The number a nonempty run of digits writes. -/
def readDigits (base : Nat) : List Char → Option Nat
  | [] => none
  | cs => digitsFrom base 0 cs

/-- "Integers are decimal, optionally with a leading `-` …, or hexadecimal with `0x`" (30_encoding.md R70). -/
def readNumeral : List Char → Option Numeral
  | '-' :: cs => (readDigits 10 cs).map (fun n => { neg := true, mag := n })
  | '0' :: 'x' :: cs => (readDigits 16 cs).map (fun n => { neg := false, mag := n })
  | cs => (readDigits 10 cs).map (fun n => { neg := false, mag := n })

/-- One hexadecimal byte of `.frame` (30_encoding.md R70): two digits. -/
def readByte : List Char → Option Byte
  | [a, b] => (readDigits 16 [a, b]).map (BitVec.ofNat 8)
  | _ => none

/-- All of a list, if each is there. -/
def allSome {α : Type} : List (Option α) → Option (List α)
  | [] => some []
  | none :: _ => none
  | some a :: os => (allSome os).map (a :: ·)

/-- The coefficients at the head of an operand list: six integers, or the word `cal` once it is defined
(30_encoding.md R70); with the operands after them. -/
def readCoefs (cal : Option Coefs) (ops : List (List Char)) : Option (Coefs × List (List Char)) :=
  match ops with
  | [] => none
  | w :: rest =>
    if w = "cal".toList then cal.map (fun c => (c, rest))
    else match allSome ((ops.take 6).map readNumeral) with
      | some [x1, x2, x3, x4, x5, x6] => (asmCoefs x1 x2 x3 x4 x5 x6).map (fun c => (c, ops.drop 6))
      | _ => none

/-- One line of a program after assembly: a request frame, or the macro READP (30_encoding.md R70, R71). -/
inductive Item where
  | request (f : Frame)
  | readp (calv : Bool) (cal : Coefs) (d2 d1 : Sample)
deriving DecidableEq, Repr

/-- What a line of text is. -/
inductive Line where
  | blank
  | define (cal : Coefs)
  | item (i : Item)
deriving DecidableEq, Repr

/-- `READP v, cal, d2, d1` (30_encoding.md R71). -/
def asmReadp (v : Numeral) (cal : Coefs) (d2 d1 : Numeral) : Option Item :=
  match asmFlag v, asmUnsigned 24 d2, asmUnsigned 24 d1 with
  | some calv, some t, some p => some (.readp calv cal t p)
  | _, _, _ => none

/-- The item of a mnemonic and its operands. The assembler emits only legal frames (30_encoding.md R70, R67). -/
def asmItem (cal : Option Coefs) (mnemonic : List Char) (ops : List (List Char)) : Option Item :=
  match ops with
  | [] => none
  | v :: rest =>
    match readNumeral v, readCoefs cal rest with
    | some v, some (c, rest) =>
      match allSome (rest.map readNumeral) with
      | some [d] =>
        if mnemonic = "CTEMP".toList then (asmCtemp v c d).map (fun i => .request (encode i)) else none
      | some [d, e] =>
        if mnemonic = "CPRES".toList then (asmCpres v c d e).map (fun i => .request (encode i))
        else if mnemonic = "READP".toList then asmReadp v c d e
        else none
      | _ => none
    | _, _ => none

/-- One line: the text before `;`, and of it `cal = …`, `.frame …`, or a mnemonic and operands parted by commas
(30_encoding.md R70). -/
def readLine (cal : Option Coefs) (text : List Char) : Option Line :=
  let body := trim (text.takeWhile (fun c => c != ';'))
  match splitAt '=' body with
  | [lhs, rhs] =>
    if trim lhs = "cal".toList then
      match readCoefs none ((splitAt ',' rhs).map trim) with
      | some (c, []) => some (.define c)
      | _ => none
    else none
  | _ =>
    match wordsOf body with
    | [] => some .blank
    | w :: ws =>
      if w = ".frame".toList then
        match allSome (ws.map readByte) with
        | some bs => (frameOfBytes bs).map (fun f => .item (.request f))
        | none => none
      else (asmItem cal w ((splitAt ',' (body.drop w.length)).map trim)).map .item

/-- The lines of a program in order, with the coefficients that `cal` stands for so far. -/
def readLines (cal : Option Coefs) : List (List Char) → Option (List Item)
  | [] => some []
  | l :: ls => match readLine cal l with
    | some .blank => readLines cal ls
    | some (.define c) => readLines (some c) ls
    | some (.item i) => (readLines cal ls).map (i :: ·)
    | none => none

/-- A program in the notation of 30_encoding.md R70 and R71, one request a line. -/
def assemble (text : List Char) : Option (List Item) := readLines none (splitAt '\n' text)

/-! ### Running a program -/

/-- The requester carries out one item. -/
def runItem (i : Item) (s : State) : Host.Outcome State Fault Refusal :=
  match i with
  | .request f => step (s.present (.submit f))
  | .readp calv cal d2 d1 => readp calv cal d2 d1 s

/-- The requester carries out a program, line after line. An error response to one line does not end it: after a READP
that stopped with its error (30_encoding.md R71) the next line is carried out all the same. R71 says only that the
requester "stops with that error", not whether that ends the lines after the READP: DESIGN CHOICE, log entry 16. -/
def runItems : List Item → State → Host.Outcome State Fault Refusal
  | [], s => .next s
  | i :: is, s => match runItem i s with
    | .next s' => runItems is s'
    | .fault r => .fault r
    | .refused r => .refused r

end Sys2Proof.Machine
end

