-- ==== Sys2Proof/Machine/Datapath.lean ====
section
/-! DEFINITION. Other renderings of the arithmetic: in fixed-width two's complement, as 40_arithmetic.md R92 and R96
describe it, and with floor division, as R100 speaks of it. The machine does not use them (its arithmetic is exact and
truncates, Arith.lean): the statements compare the two. -/

namespace Sys2Proof.Machine

/-- Division by `2^k` as an arithmetic right shift with a bias (40_arithmetic.md R92). -/
def biasedShift (a : Int) (k : Nat) : Int := (a + (if a < 0 then 2 ^ k - 1 else 0)) >>> k

/-- `T` computed in `w`-bit two's complement, every intermediate wrapped to `w` bits (40_arithmetic.md R96). -/
def temperatureAt (w : Nat) (c5 c6 : Coef) (d2 : Sample) : BitVec w :=
  let dT := d2.setWidth w - c5.setWidth w * 256#w
  2000#w + (dT * c6.setWidth w).sdiv 8388608#w

/-- `P` computed in `w`-bit two's complement, every intermediate wrapped to `w` bits (40_arithmetic.md R96). -/
def pressureAt (w : Nat) (cal : Coefs) (d1 : Sample) (dt : Word32) : BitVec w :=
  let dT := dt.signExtend w
  let off := cal.c2.setWidth w * 65536#w + (cal.c4.setWidth w * dT).sdiv 128#w
  let sens := cal.c1.setWidth w * 32768#w + (cal.c3.setWidth w * dT).sdiv 256#w
  let q := (d1.setWidth w * sens).sdiv 2097152#w
  (q - off).sdiv 32768#w

/-- `T` with floor division, the rounding the engine does not use (40_arithmetic.md R100). -/
def floorTemperature (c6 : Coef) (dT : Int) : Int := 2000 + dT * uint c6 / 8388608

/-- `P` with floor division at each of the four divisions (40_arithmetic.md R100). -/
def floorPressure (cal : Coefs) (d1 : Sample) (dT : Int) : Int :=
  let off := uint cal.c2 * 65536 + uint cal.c4 * dT / 128
  let sens := uint cal.c1 * 32768 + uint cal.c3 * dT / 256
  (uint d1 * sens / 2097152 - off) / 32768

end Sys2Proof.Machine
end

