-- ==== Sys2Proof/Machine/Reference.lean ====
section
/-! DEFINITION. The engine on one page, as spec/INDEX.md ends: a function from the 176 bits of a request to the 128 bits
of its response (10_state.md R29), written over raw bit positions, match and mask, and `Int.tdiv`. It shares the two
rows of R64 with Decode.lean and nothing else with the decoder, the operations or the meanings; the statements compare
the two. -/

namespace Sys2Proof.Machine.Reference

/-- The unsigned field of `n` bits whose lowest bit is `lo`. -/
def field (f : Frame) (lo n : Nat) : Int := ((f.toNat / 2 ^ lo % 2 ^ n : Nat) : Int)

/-- `dT` (41_temperature.md R110). -/
def delta (f : Frame) : Int := field f 32 24 - field f 80 16 * 256

/-- `T` (41_temperature.md R110). -/
def temp (f : Frame) : Int := 2000 + Int.tdiv (delta f * field f 64 16) 8388608

/-- The `dT` operand of CPRES, two's complement (30_encoding.md R63). -/
def operand (f : Frame) : Int := if field f 31 1 = 1 then field f 0 32 - 4294967296 else field f 0 32

/-- `OFF` (42_pressure.md R120). -/
def off (f : Frame) : Int := field f 128 16 * 65536 + Int.tdiv (field f 96 16 * operand f) 128

/-- `SENS` (42_pressure.md R120). -/
def sens (f : Frame) : Int := field f 144 16 * 32768 + Int.tdiv (field f 112 16 * operand f) 256

/-- `P` (42_pressure.md R120). -/
def press (f : Frame) : Int := Int.tdiv (Int.tdiv (field f 32 24 * sens f) 2097152 - off f) 32768

/-- A two's-complement 32-bit field at bit `lo` of a response, as its part of the number `RESP` (10_state.md R21). -/
def place (v : Int) (lo : Nat) : Nat := (v % 4294967296).toNat * 2 ^ lo

/-- `exec(REQ)` of spec/INDEX.md. -/
def respond (f : Frame) : RespFrame :=
  if ¬ (f &&& ctempRow.mask = ctempRow.pattern) ∧ ¬ (f &&& cpresRow.mask = cpresRow.pattern) then
    0x03000000000000000000000000000000#128
  else if field f 160 1 = 0 then
    0x02000000000000000000000000000000#128
  else if field f 168 8 = 1 then
    BitVec.ofNat 128 (0x01010000000000000000000000000000 + place (temp f) 64 + place (delta f) 32)
  else
    BitVec.ofNat 128 (0x01020000000000000000000000000000 + place (press f) 0)

end Sys2Proof.Machine.Reference
end

