-- ==== Sys2Proof/Safety.lean ====
section
/-! DEFINITION. What the statements mean by a legal RESP, by a run, and by a requester that keeps its duties. -/

namespace Sys2Proof.Safety

open Sys2Proof.Machine

/-! ### The legal values of RESP (10_state.md R25) -/

/-- `T`, `DT`, `P` all zero and neither valid flag set. -/
def noResult (r : RespFrame) : Prop :=
  respPV r = false ∧ respTV r = false ∧ respT r = 0#32 ∧ respDT r = 0#32 ∧ respP r = 0#32

/-- The shape "after reset" of 10_state.md R25. -/
def resetShape (r : RespFrame) : Prop := respStatus r = 0x00#8 ∧ noResult r

/-- The shape "CTEMP done" of 10_state.md R25, with its ranges. -/
def tempShape (r : RespFrame) : Prop :=
  respStatus r = 0x01#8 ∧ respPV r = false ∧ respTV r = true ∧ respP r = 0#32
    ∧ -129068 ≤ (respT r).toInt ∧ (respT r).toInt ≤ 133069
    ∧ -16776960 ≤ (respDT r).toInt ∧ (respDT r).toInt ≤ 16777215

/-- The shape "CPRES done" of 10_state.md R25, with its range. -/
def pressShape (r : RespFrame) : Prop :=
  respStatus r = 0x01#8 ∧ respPV r = true ∧ respTV r = false ∧ respT r = 0#32 ∧ respDT r = 0#32
    ∧ -268435456 < (respP r).toInt ∧ (respP r).toInt < 268435456

/-- The shape "error" of 10_state.md R25. -/
def errorShape (r : RespFrame) : Prop := (respStatus r = 0x02#8 ∨ respStatus r = 0x03#8) ∧ noResult r

/-- The legal values of `RESP` "are therefore exactly these four shapes" (10_state.md R25), with `VZ` and `RZ` zero
(R21). -/
def legalResp (r : RespFrame) : Prop :=
  respVZ r = 0#6 ∧ respRZ r = 0#16 ∧ (resetShape r ∨ tempShape r ∨ pressShape r ∨ errorShape r)

/-- The invariant of the machine: `RESP` is legal, and so is everything a requester has read from it. -/
def Inv (s : State) : Prop := legalResp s.resp ∧ ∀ r ∈ s.readings, legalResp r

/-- `legal(REQ)` over the bit positions of 30_encoding.md R61 and R64, apart from the decoder. -/
def legalFrame (f : Frame) : Prop :=
  (f.extractLsb' 168 8 = 0x01#8 ∨ f.extractLsb' 168 8 = 0x02#8)
    ∧ f.extractLsb' 161 7 = 0#7
    ∧ f.extractLsb' 56 8 = 0#8
    ∧ (f.extractLsb' 168 8 = 0x01#8 → f.extractLsb' 0 32 = 0#32)

/-! ### Runs (70_reset_and_hazards.md R179) -/

/-- `k` steps of the machine, by the host's own definition of a run. -/
def run (k : Nat) (s : State) : Host.Outcome State Fault Refusal := Host.Core.run Sys2Proof.core k s

/-- `RESP` after the events of a run, from `r` on: a request replaces it by its own response, reset by the all-zero
frame, and a read leaves it (70_reset_and_hazards.md R179, 10_state.md R31). -/
def respAfter (r : RespFrame) : List Event → RespFrame
  | []             => r
  | .submit f :: es => respAfter (Reference.respond f) es
  | .read :: es    => respAfter r es
  | .reset :: es   => respAfter 0#128 es

/-- What the reads of a run return, from `RESP = r` on (20_memory.md R46, R47). -/
def readsOf (r : RespFrame) : List Event → List RespFrame
  | []             => []
  | .submit f :: es => readsOf (Reference.respond f) es
  | .read :: es    => r :: readsOf r es
  | .reset :: es   => readsOf 0#128 es

/-- The most recent event of a run that writes `RESP` (10_state.md R31), if there is one. -/
def lastWrite : List Event → Option Event
  | []      => none
  | e :: es => match lastWrite es with
    | some e' => some e'
    | none    => if e = .read then none else some e

/-! ### The requester's duties -/

/-- `T` and `DT` may be used (70_reset_and_hazards.md R174). -/
def tempUsable (r : RespFrame) : Bool := respTV r

/-- `P` may be used (70_reset_and_hazards.md R174). -/
def pressUsable (r : RespFrame) : Bool := respPV r

/-- Every calibrated `CPRES` of the run carries the `dT` of the `CTEMP` of its own reading, with the same coefficients
(42_pressure.md R121, 70_reset_and_hazards.md R173, R177). `fresh` is what the requester holds: the coefficients and
`dT` of the reading's `CTEMP`, nothing once the reading's `CPRES` is submitted or a `CTEMP` or `CPRES` was not
calibrated (log entry 14). -/
def wellSequenced (fresh : Option (Coefs × Word32)) : List Event → Bool
  | [] => true
  | .submit f :: es =>
    match decode f with
    | .request (.ctemp true cal d2)   => wellSequenced (some (cal, toS32 (tempDelta cal.c5 d2))) es
    | .request (.ctemp false _ _)     => wellSequenced none es
    | .request (.cpres true cal _ dt) => decide (fresh = some (cal, dt)) && wellSequenced none es
    | .request (.cpres false _ _ _)   => wellSequenced none es
    | .illegal _                      => wellSequenced fresh es
  | .read :: es  => wellSequenced fresh es
  | .reset :: es => wellSequenced fresh es

end Sys2Proof.Safety
end

