-- ==== Sys2Proof/Certificates/Slice0/Obligations.lean ====
section
/-! DEFINITION. The statements for the provers. Each docstring names the rule of spec/ it comes from. Notation: a
submitted frame `f` is executed by `step (s.present (.submit f))`, the step of the state in which `f` is the next
event. -/

open Sys2Proof Sys2Proof.Machine Sys2Proof.Safety

/-! ### Encoding (30_encoding.md) -/

/-- Frames written out byte by byte from 30_encoding.md R61 decode to the requests they stand for: the source's fixture
as CTEMP and CPRES, a CPRES with `DT = -1`, and one frame of each cause of illegality (R66). -/
def Obligations.WrittenFramesDecode : Prop :=
  decode 0x01019CBF903C5B155AF282B86E980082C13E00000000#176
      = .request (.ctemp true ⟨40127#16, 36924#16, 23317#16, 23282#16, 33464#16, 28312#16⟩ 8569150#24)
    ∧ decode 0x02019CBF903C5B155AF282B86E98008AA21A0000093E#176
      = .request (.cpres true ⟨40127#16, 36924#16, 23317#16, 23282#16, 33464#16, 28312#16⟩ 9085466#24 2366#32)
    ∧ decode 0x020000000000000000010000000000000000FFFFFFFF#176
      = .request (.cpres false ⟨0#16, 0#16, 0#16, 1#16, 0#16, 0#16⟩ 0#24 0xFFFFFFFF#32)
    ∧ decode 0x00000000000000000000000000000000000000000000#176 = .illegal .opcode
    ∧ decode 0x01039CBF903C5B155AF282B86E980082C13E00000000#176 = .illegal .reserved
    ∧ decode 0x02019CBF903C5B155AF282B86E98808AA21A0000093E#176 = .illegal .sampleTooWide
    ∧ decode 0x01019CBF903C5B155AF282B86E980082C13E00000001#176 = .illegal .strayDelta

/-- 30_encoding.md R67: the frame of each abstract request, written as a number from R61's bit positions; decoding
inverts encoding, encoding inverts decoding, and each request has exactly one legal frame. -/
def Obligations.CanonicalEncoding : Prop :=
  (∀ (v : Bool) (cal : Coefs) (d2 : Sample),
    (encode (.ctemp v cal d2)).toNat
      = 0x01 * 2 ^ 168 + v.toNat * 2 ^ 160 + cal.c1.toNat * 2 ^ 144 + cal.c2.toNat * 2 ^ 128 + cal.c3.toNat * 2 ^ 112
        + cal.c4.toNat * 2 ^ 96 + cal.c5.toNat * 2 ^ 80 + cal.c6.toNat * 2 ^ 64 + d2.toNat * 2 ^ 32)
  ∧ (∀ (v : Bool) (cal : Coefs) (d1 : Sample) (dt : Word32),
    (encode (.cpres v cal d1 dt)).toNat
      = 0x02 * 2 ^ 168 + v.toNat * 2 ^ 160 + cal.c1.toNat * 2 ^ 144 + cal.c2.toNat * 2 ^ 128 + cal.c3.toNat * 2 ^ 112
        + cal.c4.toNat * 2 ^ 96 + cal.c5.toNat * 2 ^ 80 + cal.c6.toNat * 2 ^ 64 + d1.toNat * 2 ^ 32 + dt.toNat)
  ∧ (∀ i : Instr, decode (encode i) = .request i)
  ∧ (∀ (f : Frame) (i : Instr), decode f = .request i → encode i = f)
  ∧ (∀ i : Instr, ∃! f : Frame, legalFrame f ∧ decode f = .request i)

/-- 30_encoding.md R64: a frame is legal by the four conditions exactly when one of the two mask and match rows selects
it, the two rows never both do, the decoder accepts exactly the legal frames, and the bits outside the fields that R64
names (`CALV`, `C1..C6`, `D`) take no part. -/
def Obligations.LegalByFieldsAndByMask : Prop :=
  ∀ f : Frame,
    (legalFrame f ↔
      (f &&& 0xFFFE000000000000000000000000FF000000FFFFFFFF#176 = 0x01000000000000000000000000000000000000000000#176
        ∨ f &&& 0xFFFE000000000000000000000000FF00000000000000#176 = 0x02000000000000000000000000000000000000000000#176))
    ∧ ¬ (f &&& 0xFFFE000000000000000000000000FF000000FFFFFFFF#176 = 0x01000000000000000000000000000000000000000000#176
        ∧ f &&& 0xFFFE000000000000000000000000FF00000000000000#176 = 0x02000000000000000000000000000000000000000000#176)
    ∧ (legalFrame f ↔ ∃ i, decode f = .request i)
    ∧ (legalFrame f ↔ (Req.ofFrame f).legal = true)
    ∧ (∀ g : Frame, f &&& 0xFFFE000000000000000000000000FF000000FFFFFFFF#176
        = g &&& 0xFFFE000000000000000000000000FF000000FFFFFFFF#176 → (legalFrame f ↔ legalFrame g))

/-- 30_encoding.md R65 with the operands of R63: every frame decodes; an illegal one to `Illegal`; a legal one by its
`OP`, with each operand the number in its own field of R61. -/
def Obligations.DecodeReadsEveryField : Prop :=
  ∀ f : Frame,
    (¬ legalFrame f → ∃ c, decode f = .illegal c)
    ∧ (legalFrame f → f.extractLsb' 168 8 = 0x01#8 →
        ∃ calv cal d2, decode f = .request (.ctemp calv cal d2)
          ∧ (calv.toNat : Int) = Reference.field f 160 1
          ∧ uint cal.c1 = Reference.field f 144 16 ∧ uint cal.c2 = Reference.field f 128 16
          ∧ uint cal.c3 = Reference.field f 112 16 ∧ uint cal.c4 = Reference.field f 96 16
          ∧ uint cal.c5 = Reference.field f 80 16 ∧ uint cal.c6 = Reference.field f 64 16
          ∧ uint d2 = Reference.field f 32 24)
    ∧ (legalFrame f → f.extractLsb' 168 8 ≠ 0x01#8 →
        ∃ calv cal d1 dt, decode f = .request (.cpres calv cal d1 dt)
          ∧ (calv.toNat : Int) = Reference.field f 160 1
          ∧ uint cal.c1 = Reference.field f 144 16 ∧ uint cal.c2 = Reference.field f 128 16
          ∧ uint cal.c3 = Reference.field f 112 16 ∧ uint cal.c4 = Reference.field f 96 16
          ∧ uint cal.c5 = Reference.field f 80 16 ∧ uint cal.c6 = Reference.field f 64 16
          ∧ uint d1 = Reference.field f 32 24 ∧ sint32 dt = Reference.operand f)

/-- 20_memory.md R42 and R44, 00_scope.md R11: the 22 bytes of a frame, first the most significant, give the frame
back, and the frame is the big-endian number of its bytes. A byte sequence of another length is no request and leaves
the machine as it was: of a shorter one this is DEDUCED from R44, of a longer one it is the model's own DESIGN CHOICE
(log entry 4). -/
def Obligations.FramesMoveAsBytes : Prop :=
  (∀ f : Frame, frameOfBytes (frameBytes f) = some f ∧ bytesToNat (frameBytes f) = f.toNat
    ∧ (frameBytes f).head? = some (f.extractLsb' 168 8))
  ∧ (∀ bs : List Byte, bs.length = 22 → ∃ f, frameOfBytes bs = some f ∧ frameBytes f = bs)
  ∧ (∀ (s : State) (bs : List Byte), bs.length ≠ 22 → s.submitBytes bs = s)

/-- 20_memory.md R43: a sample is `b0×65536 + b1×256 + b2` and a coefficient `b0×256 + b1`; and the bytes of `C1..C6`
and of the sample stand in the frames of both requests "in the order received", each at its offset of 30_encoding.md
R61, between the opcode, the flag, the zero byte and the four bytes of `DT`. -/
def Obligations.OperandBytesStayInOrder : Prop :=
  (∀ b0 b1 b2 : Byte, (sampleOfBytes b0 b1 b2).toNat = b0.toNat * 65536 + b1.toNat * 256 + b2.toNat)
  ∧ (∀ b0 b1 : Byte, (coefOfBytes b0 b1).toNat = b0.toNat * 256 + b1.toNat)
  ∧ (∀ (v : Bool) (a0 a1 a2 a3 a4 a5 a6 a7 a8 a9 a10 a11 b0 b1 b2 e0 e1 e2 e3 : Byte) (cal : Coefs) (dt : Word32),
      cal = ⟨coefOfBytes a0 a1, coefOfBytes a2 a3, coefOfBytes a4 a5, coefOfBytes a6 a7, coefOfBytes a8 a9,
        coefOfBytes a10 a11⟩ →
      dt.toNat = e0.toNat * 16777216 + e1.toNat * 65536 + e2.toNat * 256 + e3.toNat →
      frameBytes (encode (.ctemp v cal (sampleOfBytes b0 b1 b2)))
        = [0x01#8, if v then 0x01#8 else 0x00#8, a0, a1, a2, a3, a4, a5, a6, a7, a8, a9, a10, a11, 0x00#8, b0, b1, b2,
            0x00#8, 0x00#8, 0x00#8, 0x00#8]
      ∧ frameBytes (encode (.cpres v cal (sampleOfBytes b0 b1 b2) dt))
        = [0x02#8, if v then 0x01#8 else 0x00#8, a0, a1, a2, a3, a4, a5, a6, a7, a8, a9, a10, a11, 0x00#8, b0, b1, b2,
            e0, e1, e2, e3])

/-! ### The response register (10_state.md) -/

/-- 10_state.md R21: where each field of `resp(status, tv, pv, t, dt, p)` stands, that `VZ` and `RZ` are zero, and that
the fields are the whole of `RESP`. -/
def Obligations.ResponseFields : Prop :=
  (∀ (st : Status) (v : Valid) (t dt p : Int),
    respStatus (mkResp st v t dt p) = st.code ∧ respVZ (mkResp st v t dt p) = 0#6
    ∧ respPV (mkResp st v t dt p) = v.pv ∧ respTV (mkResp st v t dt p) = v.tv
    ∧ respRZ (mkResp st v t dt p) = 0#16
    ∧ respT (mkResp st v t dt p) = toS32 t ∧ respDT (mkResp st v t dt p) = toS32 dt
    ∧ respP (mkResp st v t dt p) = toS32 p)
  ∧ (∀ r : RespFrame,
    r.toNat = (respStatus r).toNat * 2 ^ 120 + (respVZ r).toNat * 2 ^ 114 + (respPV r).toNat * 2 ^ 113
      + (respTV r).toNat * 2 ^ 112 + (respRZ r).toNat * 2 ^ 96 + (respT r).toNat * 2 ^ 64 + (respDT r).toNat * 2 ^ 32
      + (respP r).toNat)

/-- 00_scope.md R12: `sint_32` and `to_s32` are inverse to each other on -2^31..2^31-1. -/
def Obligations.TwosComplementRoundTrip : Prop :=
  (∀ b : Word32, -2147483648 ≤ sint32 b ∧ sint32 b ≤ 2147483647 ∧ toS32 (sint32 b) = b)
  ∧ (∀ v : Int, -2147483648 ≤ v → v ≤ 2147483647 → sint32 (toS32 v) = v)

/-- 10_state.md R30 and 70_reset_and_hazards.md R170: after reset all 128 bits are zero, that is `STATUS = NONE`, no
valid flag and no result; reset in any state has that effect and no other; and the request after it is executed. -/
def Obligations.ResetClearsResp : Prop :=
  State.reset.resp = 0#128
  ∧ bareResp .none = 0#128 ∧ resetShape 0#128
  ∧ (∀ s : State, step (s.present .reset) = .next { s with resp := 0#128 })
  ∧ (∀ (s : State) (f : Frame), ∃ t,
      run 2 ((s.present (.submit f)).present .reset) = .next t ∧ step (s.present (.submit f)) = .next t)

/-- 10_state.md R25 and R21: at reset the invariant holds. Of `RESP` this is the spec's; that nothing has been read yet
is the model's own DESIGN CHOICE, the empty list `readings` of log entry 2. -/
def Obligations.ResetStateIsLegal : Prop := Inv State.reset

/-- 10_state.md R25: every step keeps the invariant: `RESP` has one of the four shapes, within its ranges, with the zero
fields zero, and so has everything read from it. -/
def Obligations.StepKeepsRespLegal : Prop :=
  ∀ s t : State, Inv s → step s = .next t → Inv t

/-- 10_state.md R25: none of the four shapes is empty, and both error codes occur: each is the response to some request
or reset. -/
def Obligations.EveryShapeOccurs : Prop :=
  ∀ s : State,
    (∃ t, step (s.present .reset) = .next t ∧ resetShape t.resp)
    ∧ (∃ f t, step (s.present (.submit f)) = .next t ∧ tempShape t.resp)
    ∧ (∃ f t, step (s.present (.submit f)) = .next t ∧ pressShape t.resp)
    ∧ (∃ f t, step (s.present (.submit f)) = .next t ∧ errorShape t.resp ∧ respStatus t.resp = 0x02#8)
    ∧ (∃ f t, step (s.present (.submit f)) = .next t ∧ errorShape t.resp ∧ respStatus t.resp = 0x03#8)

/-! ### Arithmetic (40_arithmetic.md) -/

/-- 40_arithmetic.md R91: `tdiv` by its two cases, as the unique truncating quotient, odd in its dividend, and at the
sign cases the rule gives. -/
def Obligations.TdivTruncatesTowardZero : Prop :=
  (∀ a n : Int, 0 < n →
    (0 ≤ a → tdiv a n = a / n) ∧ (a < 0 → tdiv a n = -((-a) / n))
    ∧ tdiv a n = Int.tdiv a n
    ∧ tdiv a n = -tdiv (-a) n
    ∧ (∀ q : Int, (∃ r : Int, a = q * n + r ∧ |r| < n ∧ (r = 0 ∨ (0 < r ↔ 0 < a) ∧ (r < 0 ↔ a < 0))) ↔ q = tdiv a n))
  ∧ tdiv 7 2 = 3 ∧ tdiv (-7) 2 = -3 ∧ tdiv (-1) 128 = 0 ∧ tdiv (-128) 128 = -1 ∧ (∀ n : Int, tdiv 0 n = 0)

/-- 40_arithmetic.md R92: an arithmetic right shift is the floor and not `tdiv`; the shift of the biased dividend is
`tdiv`; the two differ by one exactly on negative dividends that `2^k` does not divide. -/
def Obligations.BiasedShiftIsTdiv : Prop :=
  ∀ (a : Int) (k : Nat), 1 ≤ k →
    a >>> k = a / 2 ^ k
    ∧ tdiv a (2 ^ k) = biasedShift a k
    ∧ a / 2 ^ k = tdiv a (2 ^ k) - (if a < 0 ∧ a % 2 ^ k ≠ 0 then 1 else 0)

/-- 40_arithmetic.md R93: the products by 256, 65536 and 32768 are left shifts of the coefficient in a field of 24, 32
and 31 bits, and no bit is lost. -/
def Obligations.ConstantProductsAreShifts : Prop :=
  ∀ c : Coef,
    (((c.setWidth 24) <<< 8).toNat : Int) = uint c * 256
    ∧ (((c.setWidth 32) <<< 16).toNat : Int) = uint c * 65536
    ∧ (((c.setWidth 31) <<< 15).toNat : Int) = uint c * 32768

/-- 40_arithmetic.md R95, the table of CTEMP: the range of every intermediate over all operands. -/
def Obligations.TemperatureIntermediateRanges : Prop :=
  ∀ (c5 c6 : Coef) (d2 : Sample),
    (0 ≤ uint c5 * 256 ∧ uint c5 * 256 ≤ 16776960)
    ∧ (-16776960 ≤ tempDelta c5 d2 ∧ tempDelta c5 d2 ≤ 16777215)
    ∧ (-1099478073600 ≤ tempDelta c5 d2 * uint c6 ∧ tempDelta c5 d2 * uint c6 ≤ 1099494785025)
    ∧ (-131068 ≤ tdiv (tempDelta c5 d2 * uint c6) 8388608 ∧ tdiv (tempDelta c5 d2 * uint c6) 8388608 ≤ 131069)
    ∧ (-129068 ≤ temperature c6 (tempDelta c5 d2) ∧ temperature c6 (tempDelta c5 d2) ≤ 133069)

/-- 40_arithmetic.md R95, the table of CPRES, "reachable": the range of every intermediate, row by row, for a `dT` that
CTEMP can produce. -/
def Obligations.PressureRangesReachableDelta : Prop :=
  ∀ (cal : Coefs) (d1 : Sample) (dT : Int), -16776960 ≤ dT → dT ≤ 16777215 →
    (-1099478073600 ≤ uint cal.c4 * dT ∧ uint cal.c4 * dT ≤ 1099494785025)
    ∧ (-1099478073600 ≤ uint cal.c3 * dT ∧ uint cal.c3 * dT ≤ 1099494785025)
    ∧ (-8589672450 ≤ tdiv (uint cal.c4 * dT) 128 ∧ tdiv (uint cal.c4 * dT) 128 ≤ 8589803008)
    ∧ (0 ≤ uint cal.c2 * 65536 ∧ uint cal.c2 * 65536 ≤ 4294901760)
    ∧ (-8589672450 ≤ pressOff cal.c2 cal.c4 dT ∧ pressOff cal.c2 cal.c4 dT ≤ 12884704768)
    ∧ (-4294836225 ≤ tdiv (uint cal.c3 * dT) 256 ∧ tdiv (uint cal.c3 * dT) 256 ≤ 4294901504)
    ∧ (0 ≤ uint cal.c1 * 32768 ∧ uint cal.c1 * 32768 ≤ 2147450880)
    ∧ (-4294836225 ≤ pressSens cal.c1 cal.c3 dT ∧ pressSens cal.c1 cal.c3 dT ≤ 6442352384)
    ∧ (-72055390736613375 ≤ uint d1 * pressSens cal.c1 cal.c3 dT
        ∧ uint d1 * pressSens cal.c1 cal.c3 dT ≤ 108084731052130560)
    ∧ (-34358687752 ≤ pressQuot d1 (pressSens cal.c1 cal.c3 dT) ∧ pressQuot d1 (pressSens cal.c1 cal.c3 dT) ≤ 51538816000)
    ∧ (-47243392520 ≤ pressQuot d1 (pressSens cal.c1 cal.c3 dT) - pressOff cal.c2 cal.c4 dT
        ∧ pressQuot d1 (pressSens cal.c1 cal.c3 dT) - pressOff cal.c2 cal.c4 dT ≤ 60128488450)
    ∧ (-1441753 ≤ pressure cal d1 dT ∧ pressure cal d1 dT ≤ 1834975)

/-- 40_arithmetic.md R95, the table of CPRES, "any `DT`": the range of every intermediate, row by row, for every 32-bit
`dT`. -/
def Obligations.PressureRangesAnyDelta : Prop :=
  ∀ (cal : Coefs) (d1 : Sample) (dt : Word32),
    (-140735340871680 ≤ uint cal.c4 * sint32 dt ∧ uint cal.c4 * sint32 dt ≤ 140735340806145)
    ∧ (-140735340871680 ≤ uint cal.c3 * sint32 dt ∧ uint cal.c3 * sint32 dt ≤ 140735340806145)
    ∧ (-1099494850560 ≤ tdiv (uint cal.c4 * sint32 dt) 128 ∧ tdiv (uint cal.c4 * sint32 dt) 128 ≤ 1099494850048)
    ∧ (0 ≤ uint cal.c2 * 65536 ∧ uint cal.c2 * 65536 ≤ 4294901760)
    ∧ (-1099494850560 ≤ pressOff cal.c2 cal.c4 (sint32 dt) ∧ pressOff cal.c2 cal.c4 (sint32 dt) ≤ 1103789751808)
    ∧ (-549747425280 ≤ tdiv (uint cal.c3 * sint32 dt) 256 ∧ tdiv (uint cal.c3 * sint32 dt) 256 ≤ 549747425024)
    ∧ (0 ≤ uint cal.c1 * 32768 ∧ uint cal.c1 * 32768 ≤ 2147450880)
    ∧ (-549747425280 ≤ pressSens cal.c1 cal.c3 (sint32 dt) ∧ pressSens cal.c1 cal.c3 (sint32 dt) ≤ 551894875904)
    ∧ (-9223230749618995200 ≤ uint d1 * pressSens cal.c1 cal.c3 (sint32 dt)
        ∧ uint d1 * pressSens cal.c1 cal.c3 (sint32 dt) ≤ 9259258990439727360)
    ∧ (-4397979140100 ≤ pressQuot d1 (pressSens cal.c1 cal.c3 (sint32 dt))
        ∧ pressQuot d1 (pressSens cal.c1 cal.c3 (sint32 dt)) ≤ 4415158744068)
    ∧ (-5501768891908 ≤ pressQuot d1 (pressSens cal.c1 cal.c3 (sint32 dt)) - pressOff cal.c2 cal.c4 (sint32 dt)
        ∧ pressQuot d1 (pressSens cal.c1 cal.c3 (sint32 dt)) - pressOff cal.c2 cal.c4 (sint32 dt) ≤ 5514653594628)
    ∧ (-167900661 ≤ pressure cal d1 (sint32 dt) ∧ pressure cal d1 (sint32 dt) ≤ 168293871)

/-- 40_arithmetic.md R96: in 64-bit two's complement CTEMP is exact, and CPRES is exact for a `dT` that CTEMP can
produce; with 65 bits or more CPRES is exact for every `DT`; with 64 it is not (95_test_vectors.md V2.13's operands). -/
def Obligations.SixtyFourBitDatapath : Prop :=
  (∀ (c5 c6 : Coef) (d2 : Sample), (temperatureAt 64 c5 c6 d2).toInt = temperature c6 (tempDelta c5 d2))
  ∧ (∀ (cal : Coefs) (d1 : Sample) (dt : Word32), -16776960 ≤ sint32 dt → sint32 dt ≤ 16777215 →
      (pressureAt 64 cal d1 dt).toInt = pressure cal d1 (sint32 dt))
  ∧ (∀ (w : Nat) (cal : Coefs) (d1 : Sample) (dt : Word32), 65 ≤ w →
      (pressureAt w cal d1 dt).toInt = pressure cal d1 (sint32 dt))
  ∧ (∃ (cal : Coefs) (d1 : Sample) (dt : Word32), (pressureAt 64 cal d1 dt).toInt ≠ pressure cal d1 (sint32 dt))

/-- 40_arithmetic.md R100: floor division gives the same `T`, and the same `P`, whenever every dividend is non-negative
or exactly divisible; it changes `T` by at most 1, and some `T` by 1; over the whole operand domain it changes some `P`
by 2. -/
def Obligations.FloorDivisionDiffers : Prop :=
  (∀ (c5 c6 : Coef) (d2 : Sample),
    floorTemperature c6 (tempDelta c5 d2) ≤ temperature c6 (tempDelta c5 d2)
    ∧ temperature c6 (tempDelta c5 d2) ≤ floorTemperature c6 (tempDelta c5 d2) + 1
    ∧ (0 ≤ tempDelta c5 d2 * uint c6 ∨ tempDelta c5 d2 * uint c6 % 8388608 = 0 →
        temperature c6 (tempDelta c5 d2) = floorTemperature c6 (tempDelta c5 d2)))
  ∧ (∀ (cal : Coefs) (d1 : Sample) (dT : Int),
      (0 ≤ uint cal.c4 * dT ∨ uint cal.c4 * dT % 128 = 0) →
      (0 ≤ uint cal.c3 * dT ∨ uint cal.c3 * dT % 256 = 0) →
      (0 ≤ uint d1 * pressSens cal.c1 cal.c3 dT ∨ uint d1 * pressSens cal.c1 cal.c3 dT % 2097152 = 0) →
      (0 ≤ pressQuot d1 (pressSens cal.c1 cal.c3 dT) - pressOff cal.c2 cal.c4 dT
        ∨ (pressQuot d1 (pressSens cal.c1 cal.c3 dT) - pressOff cal.c2 cal.c4 dT) % 32768 = 0) →
      pressure cal d1 dT = floorPressure cal d1 dT)
  ∧ (∃ (c5 c6 : Coef) (d2 : Sample),
      temperature c6 (tempDelta c5 d2) = floorTemperature c6 (tempDelta c5 d2) + 1)
  ∧ (∃ (cal : Coefs) (d1 : Sample) (dT : Int), -16776960 ≤ dT ∧ dT ≤ 16777215 ∧
      pressure cal d1 dT = floorPressure cal d1 dT + 2)

/-! ### CTEMP (41_temperature.md) -/

/-- 41_temperature.md R110: what every frame with `OP = 0x01` is answered. -/
def Obligations.CtempFrameResponse : Prop :=
  ∀ (f : Frame) (s : State), f.extractLsb' 168 8 = 0x01#8 →
    ∃ r, step (s.present (.submit f)) = .next { s with resp := r }
      ∧ (¬ legalFrame f → r = 0x03000000000000000000000000000000#128)
      ∧ (legalFrame f → f.getLsbD 160 = false → r = 0x02000000000000000000000000000000#128)
      ∧ (legalFrame f → f.getLsbD 160 = true →
          respStatus r = 0x01#8 ∧ respTV r = true ∧ respPV r = false ∧ respVZ r = 0#6 ∧ respRZ r = 0#16
          ∧ (respDT r).toInt = ((f.extractLsb' 32 24).toNat : Int) - (f.extractLsb' 80 16).toNat * 256
          ∧ (respT r).toInt
              = 2000 + Int.tdiv ((((f.extractLsb' 32 24).toNat : Int) - (f.extractLsb' 80 16).toNat * 256)
                  * (f.extractLsb' 64 16).toNat) 8388608
          ∧ respP r = 0#32)

/-- 41_temperature.md R110: a calibrated CTEMP completes in every state, for all operands: `T` and `DT` hold the exact
results, and of the state nothing but `RESP` changes. -/
def Obligations.CtempCompletes : Prop :=
  ∀ (cal : Coefs) (d2 : Sample) (s : State),
    ∃ t, exec (.ctemp true cal d2) s = .next t
      ∧ t.events = s.events ∧ t.readings = s.readings
      ∧ respStatus t.resp = 0x01#8 ∧ respTV t.resp = true ∧ respPV t.resp = false
      ∧ respVZ t.resp = 0#6 ∧ respRZ t.resp = 0#16
      ∧ (respDT t.resp).toInt = uint d2 - uint cal.c5 * 256
      ∧ (respT t.resp).toInt = 2000 + Int.tdiv ((uint d2 - uint cal.c5 * 256) * uint cal.c6) 8388608
      ∧ respP t.resp = 0#32

/-- 41_temperature.md R110, its corner cases: when `T` is 2000, where the first steps on either side are, and the
smallest and largest result. -/
def Obligations.CtempCornerCases : Prop :=
  (∀ (c5 c6 : Coef) (d2 : Sample),
    (uint d2 = uint c5 * 256 → temperature c6 (tempDelta c5 d2) = 2000)
    ∧ (uint c6 = 0 → temperature c6 (tempDelta c5 d2) = 2000)
    ∧ (temperature c6 (tempDelta c5 d2) = 2000 ↔
        -8388608 < tempDelta c5 d2 * uint c6 ∧ tempDelta c5 d2 * uint c6 < 8388608)
    ∧ (tempDelta c5 d2 * uint c6 = -8388608 → temperature c6 (tempDelta c5 d2) = 1999)
    ∧ (tempDelta c5 d2 * uint c6 = -8388609 → temperature c6 (tempDelta c5 d2) = 1999)
    ∧ (tempDelta c5 d2 * uint c6 = 8388608 → temperature c6 (tempDelta c5 d2) = 2001))
  ∧ (temperature 65535#16 (tempDelta 65535#16 0#24) = -129068)
  ∧ (temperature 65535#16 (tempDelta 0#16 16777215#24) = 133069)

/-- 41_temperature.md R111: the ranges of `dT`, `prod` and `T`, and in what they are monotone. -/
def Obligations.TemperatureRangesAndMonotone : Prop :=
  (∀ (c5 c6 : Coef) (d2 : Sample),
    -16776960 ≤ tempDelta c5 d2 ∧ tempDelta c5 d2 ≤ 16777215
    ∧ -1099478073600 ≤ tempDelta c5 d2 * uint c6 ∧ tempDelta c5 d2 * uint c6 ≤ 1099494785025
    ∧ -129068 ≤ temperature c6 (tempDelta c5 d2) ∧ temperature c6 (tempDelta c5 d2) ≤ 133069)
  ∧ (∀ (c5 : Coef) (d2 d2' : Sample), uint d2 ≤ uint d2' → tempDelta c5 d2 ≤ tempDelta c5 d2')
  ∧ (∀ (c5 c5' : Coef) (d2 : Sample), uint c5 ≤ uint c5' → tempDelta c5' d2 ≤ tempDelta c5 d2)
  ∧ (∀ (c6 : Coef) (dT dT' : Int), dT ≤ dT' → temperature c6 dT ≤ temperature c6 dT')

/-- 41_temperature.md R113, 93_implementation_defined.md I24: two frames with `OP = 0x01` that differ at most in
`C1..C4` get the same response. -/
def Obligations.CtempIgnoresC1ToC4 : Prop :=
  ∀ (f g : Frame) (s s' : State),
    f.extractLsb' 168 8 = 0x01#8 →
    f &&& 0xFFFF0000000000000000FFFFFFFFFFFFFFFFFFFFFFFF#176 = g &&& 0xFFFF0000000000000000FFFFFFFFFFFFFFFFFFFFFFFF#176 →
    ∃ r, step (s.present (.submit f)) = .next { s with resp := r }
      ∧ step (s'.present (.submit g)) = .next { s' with resp := r }

/-! ### CPRES (42_pressure.md) -/

/-- 42_pressure.md R120: what every frame with `OP = 0x02` is answered. -/
def Obligations.CpresFrameResponse : Prop :=
  ∀ (f : Frame) (s : State), f.extractLsb' 168 8 = 0x02#8 →
    ∃ r, step (s.present (.submit f)) = .next { s with resp := r }
      ∧ (¬ legalFrame f → r = 0x03000000000000000000000000000000#128)
      ∧ (legalFrame f → f.getLsbD 160 = false → r = 0x02000000000000000000000000000000#128)
      ∧ (legalFrame f → f.getLsbD 160 = true →
          respStatus r = 0x01#8 ∧ respTV r = false ∧ respPV r = true ∧ respVZ r = 0#6 ∧ respRZ r = 0#16
          ∧ respT r = 0#32 ∧ respDT r = 0#32
          ∧ ∃ off sens q : Int,
              off = (f.extractLsb' 128 16).toNat * 65536
                + Int.tdiv ((f.extractLsb' 96 16).toNat * (f.extractLsb' 0 32).toInt) 128
              ∧ sens = (f.extractLsb' 144 16).toNat * 32768
                + Int.tdiv ((f.extractLsb' 112 16).toNat * (f.extractLsb' 0 32).toInt) 256
              ∧ q = Int.tdiv ((f.extractLsb' 32 24).toNat * sens) 2097152
              ∧ (respP r).toInt = Int.tdiv (q - off) 32768)

/-- 42_pressure.md R120, R121, R124: a calibrated CPRES completes in every state, for all operands, whatever `dT` it
carries and whatever ran before: `P` holds the exact result, `T` and `DT` are zero, and of the state nothing but `RESP`
changes. -/
def Obligations.CpresCompletes : Prop :=
  ∀ (cal : Coefs) (d1 : Sample) (dt : Word32) (s : State),
    ∃ t, exec (.cpres true cal d1 dt) s = .next t
      ∧ t.events = s.events ∧ t.readings = s.readings
      ∧ respStatus t.resp = 0x01#8 ∧ respTV t.resp = false ∧ respPV t.resp = true
      ∧ respVZ t.resp = 0#6 ∧ respRZ t.resp = 0#16
      ∧ respT t.resp = 0#32 ∧ respDT t.resp = 0#32
      ∧ (respP t.resp).toInt
          = Int.tdiv (Int.tdiv (uint d1 * (uint cal.c1 * 32768 + Int.tdiv (uint cal.c3 * dt.toInt) 256)) 2097152
              - (uint cal.c2 * 65536 + Int.tdiv (uint cal.c4 * dt.toInt) 128)) 32768

/-- 42_pressure.md R120, its corner cases: `dT = 0` removes both coupling terms; `d1 = 0` gives `q = 0` and
`P = tdiv(-OFF, 32768)`, with `c2 = 1`, `c4 = 0` -2; `c4 = 1`, `dT = -1` gives `tdiv(-1, 128) = 0`; `P` is 0 exactly for
a `num` of less than 32768 in size (-1 and -32767 among them) and -2 for `num = -65537`; a negative `SENS` makes
`d1 × SENS` negative; and the values the rule names, the product that exceeds 2^63 - 1 among them. -/
def Obligations.CpresCornerCases : Prop :=
  (∀ (cal : Coefs) (d1 : Sample) (dT : Int),
    (dT = 0 → pressOff cal.c2 cal.c4 dT = uint cal.c2 * 65536 ∧ pressSens cal.c1 cal.c3 dT = uint cal.c1 * 32768)
    ∧ (uint d1 = 0 → pressQuot d1 (pressSens cal.c1 cal.c3 dT) = 0
        ∧ pressure cal d1 dT = tdiv (-pressOff cal.c2 cal.c4 dT) 32768)
    ∧ (uint d1 = 0 → uint cal.c2 = 1 → uint cal.c4 = 0 → pressure cal d1 dT = -2)
    ∧ (uint cal.c4 = 1 → dT = -1 →
        tdiv (uint cal.c4 * dT) 128 = 0 ∧ pressOff cal.c2 cal.c4 dT = uint cal.c2 * 65536)
    ∧ (pressure cal d1 dT = 0 ↔
        -32768 < pressQuot d1 (pressSens cal.c1 cal.c3 dT) - pressOff cal.c2 cal.c4 dT
        ∧ pressQuot d1 (pressSens cal.c1 cal.c3 dT) - pressOff cal.c2 cal.c4 dT < 32768)
    ∧ (pressQuot d1 (pressSens cal.c1 cal.c3 dT) - pressOff cal.c2 cal.c4 dT = -65537 → pressure cal d1 dT = -2)
    ∧ (pressSens cal.c1 cal.c3 dT < 0 → 0 < uint d1 → uint d1 * pressSens cal.c1 cal.c3 dT < 0))
  ∧ pressSens 0#16 65535#16 (-16776960) = -4294836225
  ∧ pressure ⟨0#16, 0#16, 0#16, 0#16, 0#16, 0#16⟩ 0#24 0 = 0
  ∧ pressure ⟨65535#16, 0#16, 65535#16, 0#16, 0#16, 0#16⟩ 16777215#24 16777215 = 1572839
  ∧ pressure ⟨0#16, 65535#16, 65535#16, 0#16, 0#16, 0#16⟩ 16777215#24 (-16776960) = -1179613
  ∧ (uint (16777215#24) * pressSens 65535#16 65535#16 2147483647 = 9259258990439727360
      ∧ (2 : Int) ^ 63 - 1 < 9259258990439727360)
  ∧ pressure ⟨65535#16, 0#16, 65535#16, 0#16, 0#16, 0#16⟩ 16777215#24 2147483647 = 134739951

/-- 42_pressure.md R120, its extremes "found at the corners": over every `dT` that CTEMP can produce, and over every
32-bit `dT`, no `P` lies outside the corner values (95_test_vectors.md V2.11 to V2.14), and each is attained. -/
def Obligations.PressureExtremesAtCorners : Prop :=
  (∀ (cal : Coefs) (d1 : Sample) (dT : Int), -16776960 ≤ dT → dT ≤ 16777215 →
    -1179613 ≤ pressure cal d1 dT ∧ pressure cal d1 dT ≤ 1572839)
  ∧ (∀ (cal : Coefs) (d1 : Sample) (dT : Int), -2147483648 ≤ dT → dT ≤ 2147483647 →
    -134346742 ≤ pressure cal d1 dT ∧ pressure cal d1 dT ≤ 134739951)
  ∧ pressure ⟨0#16, 65535#16, 65535#16, 0#16, 0#16, 0#16⟩ 16777215#24 (-16776960) = -1179613
  ∧ pressure ⟨65535#16, 0#16, 65535#16, 0#16, 0#16, 0#16⟩ 16777215#24 16777215 = 1572839
  ∧ pressure ⟨0#16, 65535#16, 65535#16, 0#16, 0#16, 0#16⟩ 16777215#24 (-2147483648) = -134346742
  ∧ pressure ⟨65535#16, 0#16, 65535#16, 0#16, 0#16, 0#16⟩ 16777215#24 2147483647 = 134739951

/-- 42_pressure.md R122: the ranges of `P`, whose bounds are not attained, so that `P` fits its 32-bit field; what each
intermediate is monotone in; and that `P` need not be monotone in `dT`: for one `cal` and `d1` it rises and then falls
again as `dT` grows within what CTEMP produces. -/
def Obligations.PressureRangesAndMonotone : Prop :=
  (∀ (cal : Coefs) (d1 : Sample) (dt : Word32),
    (-16776960 ≤ sint32 dt → sint32 dt ≤ 16777215 →
      -1441753 < pressure cal d1 (sint32 dt) ∧ pressure cal d1 (sint32 dt) < 1834975)
    ∧ -167900661 < pressure cal d1 (sint32 dt) ∧ pressure cal d1 (sint32 dt) < 168293871
    ∧ |pressure cal d1 (sint32 dt)| < 2 ^ 28
    ∧ sint32 (toS32 (pressure cal d1 (sint32 dt))) = pressure cal d1 (sint32 dt))
  ∧ (∀ (c c' : Coef) (dT dT' : Int), dT ≤ dT' →
      pressOff c c' dT ≤ pressOff c c' dT' ∧ pressSens c c' dT ≤ pressSens c c' dT')
  ∧ (∀ (a a' c : Coef) (dT : Int), uint a ≤ uint a' →
      pressOff a c dT ≤ pressOff a' c dT ∧ pressSens a c dT ≤ pressSens a' c dT)
  ∧ (∀ (d1 : Sample) (x y : Int), x ≤ y → pressQuot d1 x ≤ pressQuot d1 y)
  ∧ (∀ off off' q q' : Int, off ≤ off' → q ≤ q' →
      tdiv (q - off') 32768 ≤ tdiv (q - off) 32768 ∧ tdiv (q - off) 32768 ≤ tdiv (q' - off) 32768)
  ∧ (∃ (cal : Coefs) (d1 : Sample) (a b c : Int), -16776960 ≤ a ∧ a < b ∧ b < c ∧ c ≤ 16777215
      ∧ pressure cal d1 a < pressure cal d1 b ∧ pressure cal d1 c < pressure cal d1 b)

/-- 95_test_vectors.md V1 with 40_arithmetic.md R99: the two frames of the source's fixture get the responses that the
formulas give in the evaluation order of R99, and the other order gives another pressure. -/
def Obligations.FixtureResponses : Prop :=
  ∀ s : State,
    step (s.present (.submit 0x01019CBF903C5B155AF282B86E980082C13E00000000#176))
      = .next { s with resp := 0x01010000000007D70000093E00000000#128 }
    ∧ step (s.present (.submit 0x02019CBF903C5B155AF282B86E98008AA21A0000093E#176))
      = .next { s with resp := 0x010200000000000000000000000186A9#128 }
    ∧ tdiv (uint (9085466#24) * tdiv (pressSens 40127#16 23317#16 2366) 2097152 - pressOff 36924#16 23282#16 2366) 32768
      = 99984

/-- 42_pressure.md R125, 93_implementation_defined.md I24: two frames with `OP = 0x02` that differ at most in `C5`, `C6`
get the same response. -/
def Obligations.CpresIgnoresC5C6 : Prop :=
  ∀ (f g : Frame) (s s' : State),
    f.extractLsb' 168 8 = 0x02#8 →
    f &&& 0xFFFFFFFFFFFFFFFFFFFF00000000FFFFFFFFFFFFFFFF#176 = g &&& 0xFFFFFFFFFFFFFFFFFFFF00000000FFFFFFFFFFFFFFFF#176 →
    ∃ r, step (s.present (.submit f)) = .next { s with resp := r }
      ∧ step (s'.present (.submit g)) = .next { s' with resp := r }

/-- 41_temperature.md R112, 42_pressure.md R123, 40_arithmetic.md R97: results far outside the nominal ranges on either
side are answered `OK` as they are, in every state. -/
def Obligations.ResultsAreNotClamped : Prop :=
  ∀ s : State,
    (∃ t, exec (.ctemp true ⟨0#16, 0#16, 0#16, 0#16, 65535#16, 32768#16⟩ 8000000#24) s = .next t
      ∧ respStatus t.resp = 0x01#8 ∧ (respT t.resp).toInt = -32285)
    ∧ (∃ t, exec (.ctemp true ⟨0#16, 0#16, 0#16, 0#16, 0#16, 65535#16⟩ 16777215#24) s = .next t
      ∧ respStatus t.resp = 0x01#8 ∧ (respT t.resp).toInt = 133069)
    ∧ (∃ t, exec (.cpres true ⟨0#16, 65535#16, 65535#16, 65535#16, 0#16, 0#16⟩ 16777215#24 0xFF72121C#32) s = .next t
      ∧ respStatus t.resp = 0x01#8 ∧ (respP t.resp).toInt = -567069)
    ∧ (∃ t, exec (.cpres true ⟨65535#16, 0#16, 65535#16, 0#16, 0#16, 0#16⟩ 16777215#24 0x7FFFFFFF#32) s = .next t
      ∧ respStatus t.resp = 0x01#8 ∧ (respP t.resp).toInt = 134739951)

/-! ### Errors (60_exceptions.md) -/

/-- 60_exceptions.md R141, 30_encoding.md R66: each cause makes the frame illegal, the error response is `03` and fifteen
zero bytes, and it is the one effect. -/
def Obligations.IllegalFrameResponse : Prop :=
  ∀ (f : Frame) (s : State),
    ((f.extractLsb' 168 8 ≠ 0x01#8 ∧ f.extractLsb' 168 8 ≠ 0x02#8)
      ∨ f.extractLsb' 161 7 ≠ 0#7 ∨ f.extractLsb' 56 8 ≠ 0#8
      ∨ (f.extractLsb' 168 8 = 0x01#8 ∧ f.extractLsb' 0 32 ≠ 0#32)) →
    step (s.present (.submit f)) = .next { s with resp := 0x03000000000000000000000000000000#128 }

/-- 60_exceptions.md R142: with `CALV = 0` both operations, in every state and whatever the operands hold, are answered
`02` and fifteen zero bytes, and that is the one effect. -/
def Obligations.NotCalibratedResponse : Prop :=
  ∀ (cal : Coefs) (d : Sample) (dt : Word32) (s : State),
    exec (.ctemp false cal d) s = .next { s with resp := 0x02000000000000000000000000000000#128 }
    ∧ exec (.cpres false cal d dt) s = .next { s with resp := 0x02000000000000000000000000000000#128 }

/-- 60_exceptions.md R145: legality decides first, then `CALV`, and nothing after that can fail. -/
def Obligations.ErrorPriority : Prop :=
  ∀ (f : Frame) (s : State),
    ∃ r, step (s.present (.submit f)) = .next { s with resp := r }
      ∧ (¬ legalFrame f ↔ respStatus r = 0x03#8)
      ∧ (legalFrame f ∧ f.getLsbD 160 = false ↔ respStatus r = 0x02#8)
      ∧ (legalFrame f ∧ f.getLsbD 160 = true ↔ respStatus r = 0x01#8)

/-- 60_exceptions.md R146: raising an error replaces `RESP` by the code and zeros and does nothing else. -/
def Obligations.ErrorEntry : Prop :=
  ∀ (s : State) (e : Status),
    (s.raise e).events = s.events ∧ (s.raise e).readings = s.readings
    ∧ respStatus (s.raise e).resp = e.code ∧ noResult (s.raise e).resp
    ∧ respVZ (s.raise e).resp = 0#6 ∧ respRZ (s.raise e).resp = 0#16

/-- 60_exceptions.md R147: an error is not sticky: whatever frame ran before, the next one gets the response it would
have got alone. -/
def Obligations.ErrorsAreNotSticky : Prop :=
  ∀ (f g : Frame) (s : State), ∃ t,
    run 2 ((s.present (.submit g)).present (.submit f)) = .next t
      ∧ step (s.present (.submit g)) = .next t

/-! ### Steps and runs (00_scope.md R14, 10_state.md R29, 20_memory.md R45 to R47, 70_reset_and_hazards.md R179) -/

/-- A step runs the decoded request: when the next event is a frame that decodes to `i`, the step is `exec i` in the
state without that event; an undecodable frame is answered `ERR_ILLEGAL`; a read and a reset have their effects; with no
event the step leaves the state (log entry 3); and the host's word is run the same way (log entries 5 and 6). -/
def Obligations.StepRunsDecodedRequest : Prop :=
  (∀ (s : State) (f : Frame) (es : List Event) (i : Instr), s.events = .submit f :: es → decode f = .request i →
    step s = exec i { s with events := es })
  ∧ (∀ (s : State) (f : Frame) (es : List Event) (c : IllegalCause), s.events = .submit f :: es →
    decode f = .illegal c → step s = .next ({ s with events := es }.raise .errIllegal))
  ∧ (∀ (s : State) (es : List Event), s.events = .read :: es →
    step s = .next { s with events := es, readings := s.readings ++ [s.resp] })
  ∧ (∀ (s : State) (es : List Event), s.events = .reset :: es → step s = .next { s with events := es, resp := 0#128 })
  ∧ (∀ s : State, s.events = [] → step s = .next s)
  ∧ (∀ (s : State) (nbits w : Nat) (i : Instr), decodeTableWord nbits w = some i →
    step (s.withFetchWord nbits w) = exec i s)

/-- 10_state.md R29, spec/INDEX.md: every step on a request is the one-page function of the 176 bits of that request
(Reference.lean), whatever the state, and changes `RESP` alone. -/
def Obligations.ResponseIsFunctionOfFrame : Prop :=
  ∀ (f : Frame) (s : State), step (s.present (.submit f)) = .next { s with resp := Reference.respond f }

/-- 70_reset_and_hazards.md R179: no input leaves the machine without a next state, and a step takes the oldest event.
That a state with no event to come has a next state, and that it is the same state, is the model's own (log entry 3,
DEDUCED). -/
def Obligations.MachineIsNeverStuck : Prop :=
  ∀ s : State, ∃ t, step s = .next t ∧ t.events = s.events.tail

/-- 20_memory.md R46: a read changes nothing in the engine and may be repeated; a request changes `RESP` alone; the same
request again gives the same value. -/
def Obligations.ReadsAndRepeatsAreIdempotent : Prop :=
  ∀ (s : State) (f : Frame),
    step (s.present .read) = .next { s with readings := s.readings ++ [s.resp] }
    ∧ run 2 ((s.present .read).present .read) = .next { s with readings := s.readings ++ [s.resp, s.resp] }
    ∧ (∃ r, step (s.present (.submit f)) = .next { s with resp := r }
        ∧ run 2 ((s.present (.submit f)).present (.submit f)) = .next { s with resp := r })

/-- 20_memory.md R47, 70_reset_and_hazards.md R179: a run of any events, from any state, takes one step an event, in the
order of submission, and leaves `RESP` and the readings that the order gives. -/
def Obligations.RunExecutesInOrder : Prop :=
  ∀ (evs rest : List Event) (s : State),
    run evs.length { s with events := evs ++ rest }
      = .next { resp := respAfter s.resp evs, events := rest, readings := s.readings ++ readsOf s.resp evs }

/-- 70_reset_and_hazards.md R179: the end of a run depends only on its last event that writes `RESP`: the response of the
last request, the all-zero frame after a reset, and what was there if nothing wrote. -/
def Obligations.RunEndsWithLastWrite : Prop :=
  ∀ (evs : List Event) (s : State), ∃ t,
    run evs.length { s with events := evs } = .next t ∧ t.events = []
      ∧ (∀ f, lastWrite evs = some (.submit f) → t.resp = Reference.respond f)
      ∧ (lastWrite evs = some .reset → t.resp = 0#128)
      ∧ (lastWrite evs = none → t.resp = s.resp)

/-- 10_state.md R22 and R23: from reset, after any run, `STATUS` says what the most recent request was since reset, and
`TV` and `PV` hold exactly when it was a successful CTEMP, a successful CPRES; never both. -/
def Obligations.StatusTellsLastRequest : Prop :=
  ∀ evs : List Event, ∃ t,
    run evs.length { State.reset with events := evs } = .next t
      ∧ (respStatus t.resp = 0x00#8 ↔ lastWrite evs = none ∨ lastWrite evs = some .reset)
      ∧ (respStatus t.resp = 0x01#8 ↔ ∃ f, lastWrite evs = some (.submit f) ∧ legalFrame f ∧ f.getLsbD 160 = true)
      ∧ (respStatus t.resp = 0x02#8 ↔ ∃ f, lastWrite evs = some (.submit f) ∧ legalFrame f ∧ f.getLsbD 160 = false)
      ∧ (respStatus t.resp = 0x03#8 ↔ ∃ f, lastWrite evs = some (.submit f) ∧ ¬ legalFrame f)
      ∧ (respTV t.resp = true ↔ respStatus t.resp = 0x01#8
          ∧ ∃ f, lastWrite evs = some (.submit f) ∧ f.extractLsb' 168 8 = 0x01#8)
      ∧ (respPV t.resp = true ↔ respStatus t.resp = 0x01#8
          ∧ ∃ f, lastWrite evs = some (.submit f) ∧ f.extractLsb' 168 8 = 0x02#8)
      ∧ ¬ (respTV t.resp = true ∧ respPV t.resp = true)

/-! ### The requester (30_encoding.md R70, R71, 42_pressure.md R121) -/

/-- 30_encoding.md R71, 41_temperature.md R114: READP with a loaded calibration ends with the pressure of the two
samples, its `dT` the temperature delta of `d2`; without one it stops after the CTEMP with `ERR_NOT_CALIBRATED`. That its
two requests go ahead of the events to come, which stay as they were, and that its own read between them is not kept
among the readings, is the model's DESIGN CHOICE (log entry 13). -/
def Obligations.ReadpComputesPressure : Prop :=
  ∀ (cal : Coefs) (d2 d1 : Sample) (s : State),
    (∃ t, readp true cal d2 d1 s = .next t ∧ t.events = s.events ∧ t.readings = s.readings
      ∧ respStatus t.resp = 0x01#8 ∧ respPV t.resp = true ∧ respTV t.resp = false
      ∧ (respP t.resp).toInt
          = Int.tdiv (Int.tdiv (uint d1 * (uint cal.c1 * 32768
                + Int.tdiv (uint cal.c3 * (uint d2 - uint cal.c5 * 256)) 256)) 2097152
              - (uint cal.c2 * 65536 + Int.tdiv (uint cal.c4 * (uint d2 - uint cal.c5 * 256)) 128)) 32768
      ∧ -1441753 ≤ (respP t.resp).toInt ∧ (respP t.resp).toInt ≤ 1834975)
    ∧ readp false cal d2 d1 s = .next { s with resp := 0x02000000000000000000000000000000#128 }

/-- 42_pressure.md R121 and R122, 70_reset_and_hazards.md R173 and R177: in a run whose requester keeps its duties
(`wellSequenced`, log entry 14), every calibrated CPRES comes after a calibrated CTEMP of the same coefficients whose
delta it carries, and is answered with a pressure in the range of R122 for such a `dT`. -/
def Obligations.WellSequencedPressure : Prop :=
  ∀ (evs rest : List Event) (f : Frame) (cal : Coefs) (d1 : Sample) (dt : Word32) (s : State),
    wellSequenced none (evs ++ .submit f :: rest) = true → decode f = .request (.cpres true cal d1 dt) →
    ∃ (d2 : Sample) (g : Frame) (t : State),
      .submit g ∈ evs ∧ decode g = .request (.ctemp true cal d2)
      ∧ dt.toInt = uint d2 - uint cal.c5 * 256
      ∧ run (evs.length + 1) { s with events := evs ++ .submit f :: rest } = .next t
      ∧ t.events = rest
      ∧ respStatus t.resp = 0x01#8 ∧ respPV t.resp = true
      ∧ (respP t.resp).toInt = pressure cal d1 (uint d2 - uint cal.c5 * 256)
      ∧ -1441753 ≤ (respP t.resp).toInt ∧ (respP t.resp).toInt ≤ 1834975

/-- 70_reset_and_hazards.md R174, 10_state.md R24: from any legal state, after any step, a result field whose valid flag
is not set is zero, and a set flag goes with `STATUS = OK`. -/
def Obligations.UnusableFieldsAreZero : Prop :=
  ∀ s t : State, Inv s → step s = .next t →
    (tempUsable t.resp = false → respT t.resp = 0#32 ∧ respDT t.resp = 0#32)
    ∧ (pressUsable t.resp = false → respP t.resp = 0#32)
    ∧ (tempUsable t.resp = true ∨ pressUsable t.resp = true ↔ respStatus t.resp = 0x01#8)

/-- 30_encoding.md R70: an unsigned operand written without a sign is accepted exactly when its value is in its range,
and then the bits denote that value; so is `dt`, with or without a sign; `v` is accepted exactly as 0 or 1, and the bit
is that value. A leading `-` stands "where negative values are allowed" and so on no unsigned operand and not on `v`,
whatever follows it (`-0` too: DEDUCED, log entry 11). Each operand of a request goes to its own field, and a request is
assembled exactly when every operand is accepted. -/
def Obligations.AssemblerChecksRanges : Prop :=
  (∀ (n : Nat) (x : Numeral), x.neg = false →
    ((asmUnsigned n x).isSome ↔ x.value < 2 ^ n) ∧ (∀ b, asmUnsigned n x = some b → uint b = x.value))
  ∧ (∀ (n : Nat) (x : Numeral), x.neg = true → asmUnsigned n x = none)
  ∧ (∀ x : Numeral, ((asmSigned32 x).isSome ↔ -2147483648 ≤ x.value ∧ x.value ≤ 2147483647)
    ∧ (∀ b, asmSigned32 x = some b → sint32 b = x.value))
  ∧ (∀ x : Numeral, x.neg = false →
    ((asmFlag x).isSome ↔ x.value = 0 ∨ x.value = 1) ∧ (∀ b, asmFlag x = some b → (b.toNat : Int) = x.value))
  ∧ (∀ x : Numeral, x.neg = true → asmFlag x = none)
  ∧ (∀ (x1 x2 x3 x4 x5 x6 : Numeral) (cal : Coefs), asmCoefs x1 x2 x3 x4 x5 x6 = some cal ↔
      asmUnsigned 16 x1 = some cal.c1 ∧ asmUnsigned 16 x2 = some cal.c2 ∧ asmUnsigned 16 x3 = some cal.c3
      ∧ asmUnsigned 16 x4 = some cal.c4 ∧ asmUnsigned 16 x5 = some cal.c5 ∧ asmUnsigned 16 x6 = some cal.c6)
  ∧ (∀ (v d2 : Numeral) (cal : Coefs) (i : Instr), asmCtemp v cal d2 = some i ↔
      ∃ b d, asmFlag v = some b ∧ asmUnsigned 24 d2 = some d ∧ i = .ctemp b cal d)
  ∧ (∀ (v d1 dt : Numeral) (cal : Coefs) (i : Instr), asmCpres v cal d1 dt = some i ↔
      ∃ b d t, asmFlag v = some b ∧ asmUnsigned 24 d1 = some d ∧ asmSigned32 dt = some t ∧ i = .cpres b cal d t)

/-- 30_encoding.md R70: the assembler's mnemonics emit only legal frames. -/
def Obligations.AssemblerEmitsLegalFrames : Prop :=
  ∀ (cal : Option Coefs) (mnemonic : List Char) (ops : List (List Char)) (f : Frame),
    asmItem cal mnemonic ops = some (.request f) → legalFrame f ∧ ∃ i, decode f = .request i ∧ encode i = f
end

