-- ==== Sys2Proof/Laws/Arith.lean ====
section
/-! SUPPORT. The number interpretations and the division, in the terms the library knows. -/

namespace Sys2Proof.Machine

theorem uint_nonneg {n : Nat} (b : BitVec n) : 0 ≤ uint b := Int.natCast_nonneg _

theorem uint_lt {n : Nat} (b : BitVec n) : uint b < 2 ^ n := by
  have := b.isLt
  unfold uint
  exact_mod_cast this

theorem uint_coef_le (c : Coef) : uint c ≤ 65535 := by
  have := uint_lt c
  omega

theorem uint_sample_le (d : Sample) : uint d ≤ 16777215 := by
  have := uint_lt d
  omega

/-- `sint_32` is the library's two's-complement reading. -/
theorem sint32_eq_toInt (b : Word32) : sint32 b = b.toInt := by
  have hb := b.isLt
  unfold sint32 uint
  rw [BitVec.toInt_eq_msb_cond, BitVec.msb_eq_getLsbD_last]
  split <;> simp_all

theorem sint32_range (b : Word32) : -2147483648 ≤ sint32 b ∧ sint32 b ≤ 2147483647 := by
  rw [sint32_eq_toInt]
  have h1 := b.le_toInt
  have h2 := b.toInt_lt
  norm_num at h1 h2
  omega

theorem toS32_toInt {v : Int} (hlo : -2147483648 ≤ v) (hhi : v ≤ 2147483647) : (toS32 v).toInt = v := by
  unfold toS32
  rw [BitVec.toInt_ofInt, Int.bmod_eq_of_le] <;> norm_num <;> omega

/-- `tdiv` is the library's truncating division. -/
theorem tdiv_eq_tdiv (a n : Int) : tdiv a n = Int.tdiv a n := by
  unfold tdiv
  split
  · rename_i h
    exact (Int.tdiv_eq_ediv_of_nonneg h).symm
  · rename_i h
    rw [← Int.tdiv_eq_ediv_of_nonneg (by omega), Int.neg_tdiv, neg_neg]

/-- The truncating quotient, pinned by two inequalities on each side of zero. -/
theorem tdiv_spec (a : Int) {n : Int} (hn : 0 < n) :
    (0 ≤ a → tdiv a n * n ≤ a ∧ a < tdiv a n * n + n) ∧ (a ≤ 0 → a ≤ tdiv a n * n ∧ tdiv a n * n - n < a) := by
  have h1 := Int.mul_ediv_add_emod a n
  have h2 := Int.emod_nonneg a (by omega : n ≠ 0)
  have h3 := Int.emod_lt_of_pos a hn
  have k1 := Int.mul_ediv_add_emod (-a) n
  have k2 := Int.emod_nonneg (-a) (by omega : n ≠ 0)
  have k3 := Int.emod_lt_of_pos (-a) hn
  unfold tdiv
  split
  · constructor
    · intro _
      constructor <;> nlinarith
    · intro h
      have : a = 0 := by omega
      subst this
      simp [hn]
  · constructor
    · intro h
      omega
    · intro _
      constructor <;> nlinarith

theorem tdiv_mono {a b n : Int} (hn : 0 < n) (h : a ≤ b) : tdiv a n ≤ tdiv b n := by
  unfold tdiv
  split <;> split
  · exact Int.ediv_le_ediv hn h
  · omega
  · rename_i ha hb
    have := Int.ediv_nonneg (a := -a) (by omega) hn.le
    have := Int.ediv_nonneg hb hn.le
    omega
  · have := Int.ediv_le_ediv (a := -b) (b := -a) hn (by omega)
    omega

/-- A product of an operand in `0..c` with a factor in `lo..hi` around zero. -/
theorem mul_range {x y c lo hi : Int} (hx : 0 ≤ x) (hxc : x ≤ c) (hlo : lo ≤ y) (hhi : y ≤ hi) (h0 : lo ≤ 0)
    (h1 : 0 ≤ hi) : c * lo ≤ x * y ∧ x * y ≤ c * hi := by
  constructor
  · nlinarith
  · nlinarith

end Sys2Proof.Machine
end

