-- ==== Sys2Proof/Laws/Bytes.lean ====
section
/-! SUPPORT. The number a sequence of bytes denotes, one byte at a time. -/

namespace Sys2Proof.Machine

theorem bytesToNat_concat (bs : List Byte) (b : Byte) : bytesToNat (bs ++ [b]) = bytesToNat bs * 256 + b.toNat := by
  simp [bytesToNat]

theorem bytesToNat_lt (bs : List Byte) : bytesToNat bs < 256 ^ bs.length := by
  induction bs using List.reverseRecOn with
  | nil => simp [bytesToNat]
  | append_singleton bs b ih =>
    have := b.isLt
    rw [bytesToNat_concat, List.length_append, List.length_singleton, pow_succ]
    omega

theorem byteAt_toNat {w : Nat} (n k : Nat) (F : BitVec w) :
    (byteAt n k F).toNat = F.toNat / 256 ^ (n - k - 1) % 256 := by
  rw [byteAt, BitVec.extractLsb'_toNat, Nat.shiftRight_eq_div_pow, pow_mul]
  norm_num

/-- The first `k` bytes of a frame denote its most significant part. -/
theorem bytesToNat_firstBytes {w : Nat} (n : Nat) (F : BitVec w) (hF : F.toNat < 256 ^ n) :
    ∀ k ≤ n, bytesToNat ((List.range k).map (fun j => byteAt n j F)) = F.toNat / 256 ^ (n - k) := by
  intro k
  induction k with
  | zero =>
    intro _
    rw [Nat.sub_zero, Nat.div_eq_of_lt hF]
    rfl
  | succ k ih =>
    intro hk
    rw [List.range_succ, List.map_append, List.map_singleton, bytesToNat_concat, ih (by omega), byteAt_toNat]
    have e : n - k = (n - (k + 1)) + 1 := by omega
    rw [show n - k - 1 = n - (k + 1) by omega, e, pow_succ, ← Nat.div_div_eq_div_mul]
    omega

end Sys2Proof.Machine
end

