-- ==== Sys2Proof/Laws/Decode.lean ====
section
/-! SUPPORT. The fields of a frame and the frame of its fields, and what the decoder answers on the fields. -/

namespace Sys2Proof

/-- Cutting the frame of some fields gives the fields. -/
theorem Req.ofFrame_toFrame (r : Req) : Req.ofFrame r.toFrame = r := by
  obtain ⟨op, rsv, calv, ⟨c1, c2, c3, c4, c5, c6⟩, dz, d, dt⟩ := r
  simp only [Req.ofFrame, Req.toFrame, Req.mk.injEq, Coefs.mk.injEq]
  refine ⟨?_, ?_, ?_, ⟨?_, ?_, ?_, ?_, ?_, ?_⟩, ?_, ?_, ?_⟩
  all_goals (repeat rw [BitVec.extractLsb'_append_eq_of_le (by omega)])
  all_goals first
    | exact BitVec.extractLsb'_append_eq_right
    | exact BitVec.extractLsb'_append_eq_left
    | (simp only [BitVec.getLsbD_append]; cases calv <;> simp)
    | simp

/-- Two adjacent slices of a frame are one slice. -/
theorem slice_append (f : Frame) (a n m b : Nat) (h : b = a + m) :
    f.extractLsb' b n ++ f.extractLsb' a m = f.extractLsb' a (n + m) :=
  BitVec.extractLsb'_append_extractLsb'_eq_extractLsb' h

/-- The frame of the fields cut from a frame is that frame. -/
theorem Req.toFrame_ofFrame (f : Frame) : (Req.ofFrame f).toFrame = f := by
  have h : BitVec.ofBool (f.getLsbD 160) = f.extractLsb' 160 1 := by
    ext i hi
    obtain rfl : i = 0 := by omega
    simp
  simp only [Req.ofFrame, Req.toFrame]
  rw [h, slice_append f 161 _ _ 168 rfl, slice_append f 160 _ _ 161 rfl, slice_append f 144 _ _ 160 rfl,
    slice_append f 128 _ _ 144 rfl, slice_append f 112 _ _ 128 rfl, slice_append f 96 _ _ 112 rfl,
    slice_append f 80 _ _ 96 rfl, slice_append f 64 _ _ 80 rfl, slice_append f 56 _ _ 64 rfl,
    slice_append f 32 _ _ 56 rfl, slice_append f 0 _ _ 32 rfl]
  exact BitVec.extractLsb'_eq_self

/-- What the decoder answers when it accepts: a legal frame of one of the two operations, with its own fields. -/
theorem decodeReq_request (r : Req) (i : Instr) (h : decodeReq r = .request i) :
    r.rsv = 0#7 ∧ r.dz = 0#8
      ∧ (r.op = 0x01#8 ∧ r.dt = 0#32 ∧ i = .ctemp r.calv r.cal r.d
        ∨ r.op = 0x02#8 ∧ i = .cpres r.calv r.cal r.d r.dt) := by
  unfold decodeReq at h
  split_ifs at h <;> simp_all

/-- The decoder accepts exactly the legal fields. -/
theorem decodeReq_accepts (r : Req) : (∃ i, decodeReq r = .request i) ↔ r.legal = true := by
  unfold decodeReq Req.legal Req.opLegal Req.rsvLegal Req.dzLegal Req.dtLegal
  split_ifs <;> simp_all

end Sys2Proof
end

