-- ==== Sys2Proof/Laws/PerInstr.lean ====
section
/-! SUPPORT. Statements made for each constructor of Instr. The family LegalEncoding: an abstract request's frame is
legal (30_encoding.md R67: the assembler and the encoder know no other). -/

namespace Sys2Proof.Laws.LegalEncoding

/-- The frame an abstract request encodes to passes the four checks of 30_encoding.md R64. -/
def Statement (i : Instr) : Prop := (Req.ofFrame (encode i)).legal = true

theorem ctemp (calv : Bool) (cal : Coefs) (d2 : Sample) : Statement (.ctemp calv cal d2) := by
  unfold Statement encode
  rw [Req.ofFrame_toFrame]
  rfl

theorem cpres (calv : Bool) (cal : Coefs) (d1 : Sample) (dt : Word32) : Statement (.cpres calv cal d1 dt) := by
  unfold Statement encode
  rw [Req.ofFrame_toFrame]
  rfl

end Sys2Proof.Laws.LegalEncoding
end

