-- ==== Sys2Proof/Laws/Resp.lean ====
section
/-! SUPPORT. What each field of a built response reads as, so that no later proof unfolds the layout of RESP. -/

namespace Sys2Proof.Machine

variable (st : Status) (v : Valid) (t dt p : Int)

theorem respP_mkResp : respP (mkResp st v t dt p) = toS32 p := BitVec.extractLsb'_append_eq_right

theorem respDT_mkResp : respDT (mkResp st v t dt p) = toS32 dt := by
  unfold respDT mkResp
  rw [BitVec.extractLsb'_append_eq_of_le (by omega)]
  exact BitVec.extractLsb'_append_eq_right

theorem respT_mkResp : respT (mkResp st v t dt p) = toS32 t := by
  unfold respT mkResp
  repeat rw [BitVec.extractLsb'_append_eq_of_le (by omega)]
  exact BitVec.extractLsb'_append_eq_right

theorem respRZ_mkResp : respRZ (mkResp st v t dt p) = 0#16 := by
  unfold respRZ mkResp
  repeat rw [BitVec.extractLsb'_append_eq_of_le (by omega)]
  exact BitVec.extractLsb'_append_eq_right

theorem respTV_mkResp : respTV (mkResp st v t dt p) = v.tv := by
  unfold respTV mkResp
  simp only [BitVec.getLsbD_append]
  cases v.tv <;> simp

theorem respPV_mkResp : respPV (mkResp st v t dt p) = v.pv := by
  unfold respPV mkResp
  simp only [BitVec.getLsbD_append]
  cases v.pv <;> simp

theorem respVZ_mkResp : respVZ (mkResp st v t dt p) = 0#6 := by
  unfold respVZ mkResp
  repeat rw [BitVec.extractLsb'_append_eq_of_le (by omega)]
  exact BitVec.extractLsb'_append_eq_right

theorem respStatus_mkResp : respStatus (mkResp st v t dt p) = st.code := by
  unfold respStatus mkResp
  repeat rw [BitVec.extractLsb'_append_eq_of_le (by omega)]
  simp

/-- Two responses built of the same codes, flags and 32-bit results are the same frame. -/
theorem mkResp_congr {t' dt' p' : Int} (ht : toS32 t = toS32 t') (hd : toS32 dt = toS32 dt') (hp : toS32 p = toS32 p') :
    mkResp st v t dt p = mkResp st v t' dt' p' := by
  simp only [mkResp, ht, hd, hp]

end Sys2Proof.Machine
end

