-- ==== Sys2Proof/Laws/State.lean ====
section
/-! SUPPORT. One lemma per field per update of State, true by rfl, and the shared operations over the events. -/

namespace Sys2Proof.Machine

@[simp] theorem State.writeResp_resp (s : State) (r : RespFrame) : (s.writeResp r).resp = r := rfl
@[simp] theorem State.writeResp_events (s : State) (r : RespFrame) : (s.writeResp r).events = s.events := rfl
@[simp] theorem State.writeResp_readings (s : State) (r : RespFrame) : (s.writeResp r).readings = s.readings := rfl

@[simp] theorem State.raise_resp (s : State) (e : Status) : (s.raise e).resp = bareResp e := rfl
@[simp] theorem State.raise_events (s : State) (e : Status) : (s.raise e).events = s.events := rfl
@[simp] theorem State.raise_readings (s : State) (e : Status) : (s.raise e).readings = s.readings := rfl

@[simp] theorem State.present_resp (s : State) (e : Event) : (s.present e).resp = s.resp := rfl
@[simp] theorem State.present_events (s : State) (e : Event) : (s.present e).events = e :: s.events := rfl
@[simp] theorem State.present_readings (s : State) (e : Event) : (s.present e).readings = s.readings := rfl

@[simp] theorem State.submit_resp (s : State) (e : Event) : (s.submit e).resp = s.resp := rfl
@[simp] theorem State.submit_events (s : State) (e : Event) : (s.submit e).events = s.events ++ [e] := rfl
@[simp] theorem State.submit_readings (s : State) (e : Event) : (s.submit e).readings = s.readings := rfl

@[simp] theorem State.reset_resp : State.reset.resp = 0#128 := rfl
@[simp] theorem State.reset_events : State.reset.events = [] := rfl
@[simp] theorem State.reset_readings : State.reset.readings = [] := rfl

/-- The event a state was presented with is the one it takes next, and what is left is the state. -/
theorem State.nextEvent_present (s : State) (e : Event) : (s.present e).nextEvent = some (e, s) := rfl

/-- Everything `takeIllegal` can do. -/
theorem takeIllegal_eq (c : IllegalCause) (s : State) :
    takeIllegal c s = .next { s with resp := bareResp .errIllegal } := rfl

/-- Everything `takeReset` can do. -/
theorem takeReset_eq (s : State) : takeReset s = .next { s with resp := bareResp .none } := rfl

/-- Everything `takeRead` can do. -/
theorem takeRead_eq (s : State) : takeRead s = .next { s with readings := s.readings ++ [s.resp] } := rfl

end Sys2Proof.Machine
end

