-- ==== Sys2Proof/Laws/Step.lean ====
section
/-! SUPPORT. What a step can do, said once, and runs of steps by induction on the events. -/

namespace Sys2Proof.Machine

/-- A presented event is what the step executes, in the state it was presented to. -/
theorem step_present (s : State) (e : Event) : step (s.present e) = takeEvent e s := rfl

/-- A step with an event to come takes the oldest. -/
theorem step_of_events {s : State} {e : Event} {es : List Event} (h : s.events = e :: es) :
    step s = takeEvent e { s with events := es } := by
  unfold step State.nextEvent
  rw [h]

/-- A step with none leaves the state. -/
theorem step_of_no_events {s : State} (h : s.events = []) : step s = .next s := by
  unfold step State.nextEvent
  rw [h]
  rfl

/-- A meaning answers a next state that differs in `RESP` alone. -/
theorem exec_writes_resp (i : Instr) (s : State) : ∃ r, exec i s = .next { s with resp := r } := by
  cases i with
  | ctemp calv cal d2 => cases calv <;> exact ⟨_, rfl⟩
  | cpres calv cal d1 dt => cases calv <;> exact ⟨_, rfl⟩

/-- Everything an event can do: it writes `RESP`, or it is a read and adds what `RESP` holds to the readings. -/
theorem takeEvent_cases (e : Event) (s : State) :
    (∃ r, takeEvent e s = .next { s with resp := r })
      ∨ e = .read ∧ takeEvent e s = .next { s with readings := s.readings ++ [s.resp] } := by
  cases e with
  | submit f =>
    left
    unfold takeEvent execFrame
    dsimp only
    split
    · exact exec_writes_resp _ s
    · exact ⟨_, rfl⟩
  | read => exact .inr ⟨rfl, rfl⟩
  | reset => exact .inl ⟨_, rfl⟩

/-- A run of no steps. -/
theorem run_zero (s : State) : Safety.run 0 s = .next s := Host.Core.run.eq_1 Sys2Proof.core s

/-- A run that starts with a step to a next state goes on from there. -/
theorem run_succ {s t : State} (k : Nat) (h : step s = .next t) : Safety.run (k + 1) s = Safety.run k t := by
  have h' : Sys2Proof.core.step s = .next t := h
  have := Host.Core.run.eq_2 Sys2Proof.core s k
  rwa [h'] at this

end Sys2Proof.Machine
end

