-- ==== Sys2Proof/Tests/Slice0.lean ====
section
/-! SUPPORT. Small tests. Expected values come from spec/: frames and responses from 95_test_vectors.md (sets V1 to V5),
legality from 30_encoding.md R64. The witness_… theorems show for each statement of Obligations.lean that has
hypotheses a concrete case that meets them together. -/

namespace Sys2Proof.Tests

open Sys2Proof.Machine Sys2Proof.Safety

/-- The source's fixture coefficients (95_test_vectors.md V1). -/
def fixture : Coefs := ⟨40127#16, 36924#16, 23317#16, 23282#16, 33464#16, 28312#16⟩

/-- `RESP` after one step on a frame, from reset. -/
def answer (f : Frame) : Option RespFrame :=
  match step (State.reset.present (.submit f)) with
  | .next t => some t.resp
  | .fault _ => none
  | .refused _ => none

/-- A legal request, for the smoke tests of each check. -/
def legalReq : Req := { op := 0x01#8, rsv := 0#7, calv := true, cal := fixture, dz := 0#8, d := 8569150#24, dt := 0#32 }

/-! ### Well-formedness: one ill-formed term for each check -/

theorem test_legal_accepts : legalReq.legal = true := by decide
theorem test_legal_refuses_opcode : { legalReq with op := 0x00#8 }.opLegal = false := by decide
theorem test_legal_refuses_reserved_bit : { legalReq with rsv := 0b1000000#7 }.rsvLegal = false := by decide
theorem test_legal_refuses_wide_sample : { legalReq with dz := 0x01#8 }.dzLegal = false := by decide
theorem test_legal_refuses_stray_delta : { legalReq with dt := 1#32 }.dtLegal = false := by decide
theorem test_legal_refuses_each : [{ legalReq with op := 0x03#8 }, { legalReq with rsv := 1#7 },
    { legalReq with dz := 0x80#8 }, { legalReq with dt := 2366#32 }].map Req.legal = [false, false, false, false] := by
  decide

/-! ### Decoding: frames written out from 30_encoding.md R61 (95_test_vectors.md V1.1, V1.2, V4) -/

theorem test_decode_ctemp :
    decode 0x01019CBF903C5B155AF282B86E980082C13E00000000#176 = .request (.ctemp true fixture 8569150#24) := by decide
theorem test_decode_cpres :
    decode 0x02019CBF903C5B155AF282B86E98008AA21A0000093E#176 = .request (.cpres true fixture 9085466#24 2366#32) := by
  decide
theorem test_decode_not_calibrated :
    decode 0x02009CBF903C5B155AF282B86E98008AA21A0000093E#176 = .request (.cpres false fixture 9085466#24 2366#32) := by
  decide
theorem test_decode_zero_frame : decode 0#176 = .illegal .opcode := by decide
theorem test_decode_reserved_bit : decode 0x01819CBF903C5B155AF282B86E980082C13E00000000#176 = .illegal .reserved := by
  decide
theorem test_decode_wide_sample :
    decode 0x01019CBF903C5B155AF282B86E980182C13E00000000#176 = .illegal .sampleTooWide := by decide
theorem test_decode_stray_delta :
    decode 0x01019CBF903C5B155AF282B86E980082C13E0000093E#176 = .illegal .strayDelta := by decide
theorem test_table_word_ctemp :
    decodeTableWord 176 0x01000000000000000000000000000000000000000000
      = some (.ctemp false ⟨0#16, 0#16, 0#16, 0#16, 0#16, 0#16⟩ 0#24) := by decide
theorem test_frame_of_bytes :
    frameOfBytes [0x01#8, 0x01#8, 0x9C#8, 0xBF#8, 0x90#8, 0x3C#8, 0x5B#8, 0x15#8, 0x5A#8, 0xF2#8, 0x82#8, 0xB8#8, 0x6E#8,
      0x98#8, 0x00#8, 0x82#8, 0xC1#8, 0x3E#8, 0x00#8, 0x00#8, 0x00#8, 0x00#8]
      = some 0x01019CBF903C5B155AF282B86E980082C13E00000000#176 := by decide

/-! ### One step (95_test_vectors.md V3.2, V3.6, V2.20, V2.13, V4.15, V4.12) -/

theorem test_ctemp_negative_delta_truncates :
    answer 0x01019CBF903C5B155AF282B86E98007A120000000000#176 = some 0x0101000000000058FFF75A0000000000#128 := by decide
theorem test_ctemp_just_below_minus_one :
    answer 0x010100000000000000002AAB00030000005500000000#176 = some 0x01010000000007CFFFD5555500000000#128 := by decide
theorem test_cpres_truncation_and_floor_differ_by_two :
    answer 0x02010000FFFFFFFFFFFF0000000000FFFFFFFF72121C#176 = some 0x010200000000000000000000FFF758E3#128 := by decide
theorem test_cpres_product_exceeds_64_bits :
    answer 0x0201FFFF0000FFFF00000000000000FFFFFF7FFFFFFF#176 = some 0x0102000000000000000000000807F7EF#128 := by decide
theorem test_illegal_wins_over_not_calibrated :
    answer 0x01009CBF903C5B155AF282B86E980082C13E00000005#176 = some 0x03000000000000000000000000000000#128 := by decide
theorem test_not_calibrated :
    answer 0x01009CBF903C5B155AF282B86E980082C13E00000000#176 = some 0x02000000000000000000000000000000#128 := by decide

/-! ### Division (95_test_vectors.md V5) and the assembler (program P2 step 2, 30_encoding.md R70) -/

theorem test_tdiv_signs : [tdiv (-129) 128, tdiv (-2097151) 2097152, tdiv (-8388609) 8388608, tdiv 8388609 8388608]
    = [-1, 0, -1, 1] := by decide
theorem test_biased_shift_signs : [biasedShift (-129) 7, biasedShift (-2097151) 21, biasedShift (-8388609) 23]
    = [-1, 0, -1] := by decide
theorem test_assemble_cpres :
    assemble "cal = 40127, 36924, 23317, 23282, 33464, 28312 ; fixture\nCPRES 1, cal, 9085466, -566784".toList
      = some [.request 0x02019CBF903C5B155AF282B86E98008AA21AFFF75A00#176] := by decide
theorem test_assemble_operand_out_of_range : assemble "CTEMP 1, 0, 0, 0, 0, 0, 0, 16777216".toList = none := by decide

/-! ### Witnesses of the statements' hypotheses -/

/-- CanonicalEncoding, StepRunsDecodedRequest (first clause), AssemblerEmitsLegalFrames, CtempIgnoresC1ToC4: a frame that
decodes, next in a state. -/
theorem witness_decodes :
    decode 0x01019CBF903C5B155AF282B86E980082C13E00000000#176 = .request (.ctemp true fixture 8569150#24)
      ∧ (State.reset.present (.submit 0x01019CBF903C5B155AF282B86E980082C13E00000000#176)).events
        = .submit 0x01019CBF903C5B155AF282B86E980082C13E00000000#176 :: [] := by decide

/-- LegalByFieldsAndByMask, last clause: two frames that agree under the mask and differ outside it. -/
theorem witness_agree_under_mask :
    0x01019CBF903C5B155AF282B86E980082C13E00000000#176 &&& 0xFFFE000000000000000000000000FF000000FFFFFFFF#176
      = 0x01000000000000000000000000000000000000000000#176 &&& 0xFFFE000000000000000000000000FF000000FFFFFFFF#176 := by
  decide

/-- DecodeReadsEveryField, CtempFrameResponse, CpresFrameResponse: legal frames of both operations, calibrated and not,
and illegal ones. -/
theorem witness_legal_frames :
    legalFrame 0x01019CBF903C5B155AF282B86E980082C13E00000000#176
      ∧ legalFrame 0x01009CBF903C5B155AF282B86E980082C13E00000000#176
      ∧ legalFrame 0x02019CBF903C5B155AF282B86E98008AA21AFFFFFFFF#176
      ∧ legalFrame 0x02009CBF903C5B155AF282B86E98008AA21AFFFFFFFF#176
      ∧ ¬ legalFrame 0x01019CBF903C5B155AF282B86E980082C13E00000001#176
      ∧ ¬ legalFrame 0x02039CBF903C5B155AF282B86E98008AA21AFFFFFFFF#176
      ∧ (0x01019CBF903C5B155AF282B86E980082C13E00000000#176 : Frame).getLsbD 160 = true
      ∧ (0x01009CBF903C5B155AF282B86E980082C13E00000000#176 : Frame).getLsbD 160 = false
      ∧ (0x02019CBF903C5B155AF282B86E98008AA21AFFFFFFFF#176 : Frame).getLsbD 160 = true
      ∧ (0x02009CBF903C5B155AF282B86E98008AA21AFFFFFFFF#176 : Frame).getLsbD 160 = false := by
  unfold legalFrame
  decide

/-- FramesMoveAsBytes: a sequence of 22 bytes, and the lengths on either side of it. -/
theorem witness_byte_lengths :
    (List.replicate 22 (0#8 : Byte)).length = 22 ∧ (List.replicate 21 (0#8 : Byte)).length ≠ 22
      ∧ (List.replicate 23 (0#8 : Byte)).length ≠ 22 := by decide

/-- TwosComplementRoundTrip, AssemblerChecksRanges: both ends of the range, and numerals of either sign. -/
theorem witness_signed_range :
    (-2147483648 ≤ (-2147483648 : Int) ∧ (-2147483648 : Int) ≤ 2147483647)
      ∧ (-2147483648 ≤ (2147483647 : Int) ∧ (2147483647 : Int) ≤ 2147483647)
      ∧ asmSigned32 ⟨true, 2147483648⟩ = some 0x80000000#32 ∧ asmSigned32 ⟨false, 2147483647⟩ = some 0x7FFFFFFF#32
      ∧ asmSigned32 ⟨true, 2147483649⟩ = none ∧ asmSigned32 ⟨false, 2147483648⟩ = none
      ∧ asmUnsigned 16 ⟨false, 65535⟩ = some 65535#16 ∧ asmUnsigned 16 ⟨false, 65536⟩ = none
      ∧ asmUnsigned 16 ⟨true, 0⟩ = none ∧ asmSigned32 ⟨true, 0⟩ = some 0#32 := by decide

/-- AssemblerChecksRanges, the clauses for `v`: both values, the first past them, and a sign. -/
theorem witness_flag_operands :
    [asmFlag ⟨false, 0⟩, asmFlag ⟨false, 1⟩, asmFlag ⟨false, 2⟩, asmFlag ⟨true, 1⟩, asmFlag ⟨true, 0⟩]
      = [some false, some true, none, none, none] := by decide

/-- OperandBytesStayInOrder: the bytes of the fixture's C1 and D2 and of `DT = -1`. -/
theorem witness_operand_bytes :
    coefOfBytes 0x9C#8 0xBF#8 = 40127#16 ∧ sampleOfBytes 0x82#8 0xC1#8 0x3E#8 = 8569150#24
      ∧ (0xFFFFFFFF#32 : Word32).toNat
        = (0xFF#8 : Byte).toNat * 16777216 + (0xFF#8 : Byte).toNat * 65536 + (0xFF#8 : Byte).toNat * 256
          + (0xFF#8 : Byte).toNat := by decide

/-- StepKeepsRespLegal, UnusableFieldsAreZero: a state that meets the invariant and steps to a next state. -/
theorem witness_inv_and_step :
    Inv State.reset ∧ Inv (State.reset.present .read) ∧ ∃ t, step (State.reset.present .read) = .next t := by
  have h : legalResp 0#128 := by
    unfold legalResp resetShape tempShape pressShape errorShape noResult
    decide
  exact ⟨⟨h, fun _ hr => nomatch hr⟩, ⟨h, fun _ hr => nomatch hr⟩, _, rfl⟩

/-- TdivTruncatesTowardZero, BiasedShiftIsTdiv: a divisor, dividends of each sign, and the least shift. -/
theorem witness_divisor : (0 : Int) < 1 ∧ (0 ≤ (0 : Int)) ∧ (-1 : Int) < 0 ∧ 1 ≤ 1 := by decide

/-- PressureRangesReachableDelta, SixtyFourBitDatapath, PressureRangesAndMonotone: both ends of the reachable range. -/
theorem witness_reachable_delta :
    sint32 0xFF000100#32 = -16776960 ∧ sint32 0x00FFFFFF#32 = 16777215 ∧ 65 ≤ 65
      ∧ (∃ c5 d2, tempDelta c5 d2 = -16776960) ∧ (∃ c5 d2, tempDelta c5 d2 = 16777215) :=
  ⟨by decide, by decide, by decide, ⟨65535#16, 0#24, by decide⟩, ⟨0#16, 16777215#24, by decide⟩⟩

/-- FloorDivisionDiffers: operands of each clause and of each side of its conditions: T (95_test_vectors.md V3.1, V3.5);
P with the fixture at `dT = 0`, with a negative `dT` that no coefficient takes up, and with every dividend negative and
exactly divisible. -/
theorem witness_floor_clauses :
    0 ≤ tempDelta 33464#16 8566784#24 * uint (28312#16) ∧ tempDelta 2#16 256#24 * uint (32768#16) % 8388608 = 0
      ∧ (0 ≤ uint (9085466#24) * pressSens 40127#16 23317#16 0
        ∧ 0 ≤ pressQuot 9085466#24 (pressSens 40127#16 23317#16 0) - pressOff 36924#16 23282#16 0)
      ∧ (0 ≤ uint (0#16) * (-1) ∧ 0 ≤ uint (9085466#24) * pressSens 40127#16 0#16 (-1)
        ∧ 0 ≤ pressQuot 9085466#24 (pressSens 40127#16 0#16 (-1)) - pressOff 36924#16 0#16 (-1))
      ∧ (uint (1#16) * (-256) % 128 = 0 ∧ uint (1#16) * (-256) % 256 = 0 ∧ pressSens 0#16 1#16 (-256) = -1
        ∧ uint (2097152#24) * pressSens 0#16 1#16 (-256) % 2097152 = 0)
      ∧ (pressQuot 0#24 (pressSens 0#16 0#16 (-1)) - pressOff 1#16 0#16 (-1)) % 32768 = 0 := by decide

/-- CtempCornerCases: operands of each clause (95_test_vectors.md V3.1, V3.13, V3.5 to V3.9). -/
theorem witness_ctemp_corners :
    uint (8566784#24) = uint (33464#16) * 256 ∧ uint (0#16) = 0
      ∧ tempDelta 32768#16 1#24 * uint (1#16) = -8388607 ∧ tempDelta 0#16 8388607#24 * uint (1#16) = 8388607
      ∧ tempDelta 2#16 256#24 * uint (32768#16) = -8388608 ∧ tempDelta 10923#16 85#24 * uint (3#16) = -8388609
      ∧ tempDelta 0#16 8388608#24 * uint (1#16) = 8388608 := by decide

/-- CpresCornerCases: `num` at -32767, -32768, 32767, 32768 and -65537 (R120; the first is 95_test_vectors.md V2.7), and
operands of the other clauses. -/
theorem witness_cpres_corners :
    (uint (0#24) = 0 ∧ uint (1#16) = 1 ∧ uint (0#16) = 0)
      ∧ ([32767, 32768, -32767, -32768, 65537].map fun dT => pressQuot 0#24 (pressSens 0#16 0#16 dT)
        - pressOff 0#16 128#16 dT) = [-32767, -32768, 32767, 32768, -65537]
      ∧ pressSens 0#16 65535#16 (-16776960) < 0 ∧ 0 < uint (1#24) := by decide

/-- TemperatureRangesAndMonotone, PressureRangesAndMonotone: ordered operands. -/
theorem witness_ordered_operands :
    uint (0#24) ≤ uint (16777215#24) ∧ uint (0#16) ≤ uint (65535#16) ∧ (-1 : Int) ≤ 0 ∧ (0 : Int) ≤ 1 := by decide

/-- CtempIgnoresC1ToC4, CpresIgnoresC5C6: frames with different values of the fields not read (V3.14 and V1.1, V2.19 and
V1.2). -/
theorem witness_unread_fields :
    (0x01010000FFFF0001000282B86E980082C13E00000000#176 : Frame).extractLsb' 168 8 = 0x01#8
      ∧ 0x01010000FFFF0001000282B86E980082C13E00000000#176 &&& 0xFFFF0000000000000000FFFFFFFFFFFFFFFFFFFFFFFF#176
        = 0x01019CBF903C5B155AF282B86E980082C13E00000000#176 &&& 0xFFFF0000000000000000FFFFFFFFFFFFFFFFFFFFFFFF#176
      ∧ (0x02019CBF903C5B155AF200000000008AA21A0000093E#176 : Frame).extractLsb' 168 8 = 0x02#8
      ∧ 0x02019CBF903C5B155AF200000000008AA21A0000093E#176 &&& 0xFFFFFFFFFFFFFFFFFFFF00000000FFFFFFFFFFFFFFFF#176
        = 0x02019CBF903C5B155AF282B86E98008AA21A0000093E#176 &&& 0xFFFFFFFFFFFFFFFFFFFF00000000FFFFFFFFFFFFFFFF#176 := by
  decide

/-- IllegalFrameResponse: a frame for each cause (95_test_vectors.md V4.3, V4.5, V4.10, V4.8). -/
theorem witness_illegal_causes :
    ((0x03019CBF903C5B155AF282B86E980082C13E00000000#176 : Frame).extractLsb' 168 8 ≠ 0x01#8
        ∧ (0x03019CBF903C5B155AF282B86E980082C13E00000000#176 : Frame).extractLsb' 168 8 ≠ 0x02#8)
      ∧ (0x01039CBF903C5B155AF282B86E980082C13E00000000#176 : Frame).extractLsb' 161 7 ≠ 0#7
      ∧ (0x02019CBF903C5B155AF282B86E98808AA21A0000093E#176 : Frame).extractLsb' 56 8 ≠ 0#8
      ∧ (0x01019CBF903C5B155AF282B86E980082C13E00000001#176 : Frame).extractLsb' 168 8 = 0x01#8
      ∧ (0x01019CBF903C5B155AF282B86E980082C13E00000001#176 : Frame).extractLsb' 0 32 ≠ 0#32 := by decide

/-- StepRunsDecodedRequest: a state for each of its clauses. -/
theorem witness_step_clauses :
    decode 0#176 = .illegal .opcode ∧ (State.reset.present (.submit 0#176)).events = .submit 0#176 :: []
      ∧ (State.reset.present .read).events = .read :: [] ∧ (State.reset.present .reset).events = .reset :: []
      ∧ State.reset.events = []
      ∧ decodeTableWord 176 0x02000000000000000000000000000000000000000000
        = some (.cpres false ⟨0#16, 0#16, 0#16, 0#16, 0#16, 0#16⟩ 0#24 0#32) := by decide

/-- RunEndsWithLastWrite, StatusTellsLastRequest: runs whose last write is a request, a reset, and none. -/
theorem witness_last_writes :
    lastWrite [.reset, .submit 0#176, .read] = some (.submit 0#176) ∧ lastWrite [.submit 0#176, .reset] = some .reset
      ∧ lastWrite [.read, .read] = none := by decide

/-- WellSequencedPressure: program P1's events (95_test_vectors.md) are well sequenced, and its CPRES decodes; P5's stale
CPRES is not. -/
theorem witness_well_sequenced :
    wellSequenced none ([.submit 0x01019CBF903C5B155AF282B86E980082C13E00000000#176, .read]
        ++ .submit 0x02019CBF903C5B155AF282B86E98008AA21A0000093E#176 :: []) = true
      ∧ decode 0x02019CBF903C5B155AF282B86E98008AA21A0000093E#176 = .request (.cpres true fixture 9085466#24 2366#32)
      ∧ wellSequenced none [.submit 0x01019CBF903C5B155AF282B86E980082C13E00000000#176,
          .submit 0x02019CBF903C5B155AF282B86E98008AA21A0000093E#176,
          .submit 0x02019CBF903C5B155AF282B86E98008AA21A0000093E#176] = false := by decide

/-- AssemblerEmitsLegalFrames: a mnemonic line that assembles. -/
theorem witness_assembled_line :
    asmItem (some fixture) "CTEMP".toList ["1".toList, "cal".toList, "8569150".toList]
      = some (.request 0x01019CBF903C5B155AF282B86E980082C13E00000000#176) := by decide

end Sys2Proof.Tests
end

/-! Proofs for 00_scope.md: the two's-complement reading (R12), and a step as the effect of the requester's or the
host's next move (R14). -/

namespace Sys2Proof.Machine

/-! ### `sint_32` and `to_s32` -/

/-- The field of a field's two's-complement value is that field. -/
@[simp] theorem toS32_sint32 (b : Word32) : toS32 (sint32 b) = b := by
  rw [sint32_eq_toInt]
  exact BitVec.ofInt_toInt

/-- A value of the 32-bit range is the two's-complement value of its field. -/
theorem sint32_toS32 {v : Int} (hlo : -2147483648 ≤ v) (hhi : v ≤ 2147483647) : sint32 (toS32 v) = v := by
  rw [sint32_eq_toInt]
  exact toS32_toInt hlo hhi

/-- Settles O8: `sint_32` is the library's two's-complement reading, and `to_s32` the library's inverse of it. -/
theorem twosComplementRoundTrip : Obligations.TwosComplementRoundTrip := by
  unfold Obligations.TwosComplementRoundTrip
  constructor
  · intro b
    obtain ⟨hlo, hhi⟩ := sint32_range b
    exact ⟨hlo, hhi, toS32_sint32 b⟩
  · intro v hlo hhi
    exact sint32_toS32 hlo hhi

/-! ### What an event executes -/

/-- A frame that the decoder accepts runs as the request it stands for. -/
theorem execFrame_of_request {f : Frame} {i : Instr} (h : decode f = .request i) (s : State) :
    execFrame f s = exec i s := by
  unfold execFrame
  rw [h]

/-- A frame that the decoder refuses is answered `ERR_ILLEGAL`, whatever the cause (60_exceptions.md R141). -/
theorem execFrame_of_illegal {f : Frame} {c : IllegalCause} (h : decode f = .illegal c) (s : State) :
    execFrame f s = .next (s.raise .errIllegal) := by
  unfold execFrame
  rw [h]
  rfl

/-- The frame reset leaves is the all-zero one (10_state.md R30). -/
theorem bareResp_none : bareResp .none = 0#128 := by decide

/-- The table's number is read by decoding the frame it stands for. -/
theorem decodeTableWord_eq_some_iff {nbits w : Nat} {i : Instr} :
    decodeTableWord nbits w = some i ↔ decode (tableFrame nbits w) = .request i := by
  unfold decodeTableWord
  cases decode (tableFrame nbits w) <;> simp

/-- Loading the table's number presents its frame, which is what the step executes. -/
theorem step_withFetchWord (s : State) (nbits w : Nat) :
    step (s.withFetchWord nbits w) = execFrame (tableFrame nbits w) s := step_present s _

/-- Settles O39: the step takes the oldest event, and each kind of event has the effect said of it. -/
theorem stepRunsDecodedRequest : Obligations.StepRunsDecodedRequest := by
  unfold Obligations.StepRunsDecodedRequest
  refine ⟨?request, ?illegal, ?read, ?reset, ?idle, ?hostWord⟩
  case request =>
    intro s f es i hev hdec
    rw [step_of_events hev]
    exact execFrame_of_request hdec _
  case illegal =>
    intro s f es c hev hdec
    rw [step_of_events hev]
    exact execFrame_of_illegal hdec _
  case read =>
    intro s es hev
    rw [step_of_events hev]
    exact takeRead_eq _
  case reset =>
    intro s es hev
    rw [step_of_events hev, ← bareResp_none]
    exact takeReset_eq _
  case idle =>
    intro s hev
    exact step_of_no_events hev
  case hostWord =>
    intro s nbits w i hword
    rw [step_withFetchWord]
    exact execFrame_of_request (decodeTableWord_eq_some_iff.mp hword) s

end Sys2Proof.Machine

/-! Proofs for 10_state.md: the layout of `RESP` (R21), the response as a function of the frame (R29), the four legal
shapes (R25), reset (R30), and what STATUS and the valid flags tell after a run (R22, R23). -/

namespace Sys2Proof.Machine

open Sys2Proof.Safety

/-! ### The fields of `RESP` (R21) -/

/-- The fields, each at its place, are the whole number. -/
theorem toNat_eq_fields (r : RespFrame) :
    r.toNat = (respStatus r).toNat * 2 ^ 120 + (respVZ r).toNat * 2 ^ 114 + (respPV r).toNat * 2 ^ 113
      + (respTV r).toNat * 2 ^ 112 + (respRZ r).toNat * 2 ^ 96 + (respT r).toNat * 2 ^ 64 + (respDT r).toNat * 2 ^ 32
      + (respP r).toNat := by
  have hr := r.isLt
  simp only [respStatus, respVZ, respPV, respTV, respRZ, respT, respDT, respP, BitVec.extractLsb'_toNat, BitVec.getLsbD,
    Nat.toNat_testBit, Nat.shiftRight_eq_div_pow]
  omega

/-- Settles O7: the layout lemmas of a built response, and any response as the number of its fields. -/
theorem responseFields : Obligations.ResponseFields := by
  unfold Obligations.ResponseFields
  constructor
  · intro st v t dt p
    exact ⟨respStatus_mkResp st v t dt p, respVZ_mkResp st v t dt p, respPV_mkResp st v t dt p,
      respTV_mkResp st v t dt p, respRZ_mkResp st v t dt p, respT_mkResp st v t dt p, respDT_mkResp st v t dt p,
      respP_mkResp st v t dt p⟩
  · exact toNat_eq_fields

/-- A built response from the number of its fields, its results placed as the one-page function places them. -/
theorem mkResp_eq_ofNat (st : Status) (v : Valid) (t dt p : Int) :
    mkResp st v t dt p
      = BitVec.ofNat 128 (st.code.toNat * 2 ^ 120 + v.pv.toNat * 2 ^ 113 + v.tv.toNat * 2 ^ 112
        + Reference.place t 64 + Reference.place dt 32 + Reference.place p 0) := by
  have number : (mkResp st v t dt p).toNat = st.code.toNat * 2 ^ 120 + v.pv.toNat * 2 ^ 113 + v.tv.toNat * 2 ^ 112
      + Reference.place t 64 + Reference.place dt 32 + Reference.place p 0 := by
    rw [toNat_eq_fields, respStatus_mkResp, respVZ_mkResp, respPV_mkResp, respTV_mkResp, respRZ_mkResp, respT_mkResp,
      respDT_mkResp, respP_mkResp]
    simp [toS32, Reference.place]
  rw [← number, BitVec.ofNat_toNat, BitVec.setWidth_eq]

/-! ### The legal frames and their two rows (30_encoding.md R64) -/

/-- A frame is given by its fields. -/
theorem ofFrame_injective : Function.Injective Req.ofFrame := Function.LeftInverse.injective Req.toFrame_ofFrame

/-- The CTEMP row selects the legal frames with `OP = 0x01`. -/
theorem ctempRow_selects_iff (f : Frame) :
    f &&& ctempRow.mask = ctempRow.pattern ↔ legalFrame f ∧ f.extractLsb' 168 8 = 0x01#8 := by
  have keep7 (x : BitVec 7) : x &&& 127#7 = x := BitVec.and_allOnes
  have keep8 (x : BitVec 8) : x &&& 255#8 = x := BitVec.and_allOnes
  have keep32 (x : BitVec 32) : x &&& 4294967295#32 = x := BitVec.and_allOnes
  have fieldwise : f &&& ctempRow.mask = ctempRow.pattern ↔
      f.extractLsb' 168 8 = 0x01#8 ∧ f.extractLsb' 161 7 = 0#7 ∧ f.extractLsb' 56 8 = 0#8
        ∧ f.extractLsb' 0 32 = 0#32 := by
    rw [← ofFrame_injective.eq_iff]
    simp [Req.ofFrame, BitVec.extractLsb'_and, ctempRow, keep7, keep8, keep32]
  rw [fieldwise]
  constructor
  · rintro ⟨hop, hrsv, hdz, hdt⟩
    exact ⟨⟨.inl hop, hrsv, hdz, fun _ => hdt⟩, hop⟩
  · rintro ⟨⟨-, hrsv, hdz, hdt⟩, hop⟩
    exact ⟨hop, hrsv, hdz, hdt hop⟩

/-- The CPRES row selects the legal frames with `OP = 0x02`. -/
theorem cpresRow_selects_iff (f : Frame) :
    f &&& cpresRow.mask = cpresRow.pattern ↔ legalFrame f ∧ f.extractLsb' 168 8 = 0x02#8 := by
  have keep7 (x : BitVec 7) : x &&& 127#7 = x := BitVec.and_allOnes
  have keep8 (x : BitVec 8) : x &&& 255#8 = x := BitVec.and_allOnes
  have fieldwise : f &&& cpresRow.mask = cpresRow.pattern ↔
      f.extractLsb' 168 8 = 0x02#8 ∧ f.extractLsb' 161 7 = 0#7 ∧ f.extractLsb' 56 8 = 0#8 := by
    rw [← ofFrame_injective.eq_iff]
    simp [Req.ofFrame, BitVec.extractLsb'_and, cpresRow, keep7, keep8]
  rw [fieldwise]
  constructor
  · rintro ⟨hop, hrsv, hdz⟩
    exact ⟨⟨.inr hop, hrsv, hdz, fun hop' => by simp [hop] at hop'⟩, hop⟩
  · rintro ⟨⟨-, hrsv, hdz, -⟩, hop⟩
    exact ⟨hop, hrsv, hdz⟩

/-- A frame is illegal exactly when neither row selects it. -/
theorem not_selected_iff (f : Frame) :
    ¬ (f &&& ctempRow.mask = ctempRow.pattern) ∧ ¬ (f &&& cpresRow.mask = cpresRow.pattern) ↔ ¬ legalFrame f := by
  rw [ctempRow_selects_iff, cpresRow_selects_iff, ← not_or, not_iff_not, ← and_or_left, and_iff_left_iff_imp]
  exact And.left

/-- The four conditions over the bit positions are the four checks on the fields. -/
theorem legalFrame_iff (f : Frame) : legalFrame f ↔ (Req.ofFrame f).legal = true := by
  simp [legalFrame, Req.legal, Req.opLegal, Req.rsvLegal, Req.dzLegal, Req.dtLegal, Req.ofFrame, imp_iff_not_or,
    and_assoc]

/-! ### What the decoder answers on a frame (30_encoding.md R65) -/

theorem decode_of_not_legal {f : Frame} (h : ¬ legalFrame f) : ∃ c, decode f = .illegal c := by
  rw [legalFrame_iff, ← decodeReq_accepts] at h
  cases hdec : decode f with
  | request i => exact absurd ⟨i, hdec⟩ h
  | illegal c => exact ⟨c, rfl⟩

theorem decode_of_ctemp {f : Frame} (h : legalFrame f) (hop : f.extractLsb' 168 8 = 0x01#8) :
    decode f = .request (.ctemp (f.getLsbD 160) (Req.ofFrame f).cal (f.extractLsb' 32 24)) := by
  obtain ⟨-, hrsv, hdz, hdt⟩ := h
  simp [decode, decodeReq, Req.ofFrame, hop, hrsv, hdz, hdt hop]

theorem decode_of_cpres {f : Frame} (h : legalFrame f) (hop : f.extractLsb' 168 8 = 0x02#8) :
    decode f = .request (.cpres (f.getLsbD 160) (Req.ofFrame f).cal (f.extractLsb' 32 24) (f.extractLsb' 0 32)) := by
  obtain ⟨-, hrsv, hdz, -⟩ := h
  simp [decode, decodeReq, Req.ofFrame, hop, hrsv, hdz]

/-! ### The one-page function in the terms of the operations (R29, spec/INDEX.md) -/

/-- A slice of a frame read as a number is the field of that place and width. -/
theorem uint_extractLsb' (f : Frame) (lo n : Nat) : uint (f.extractLsb' lo n) = Reference.field f lo n := by
  rw [uint, BitVec.extractLsb'_toNat, Nat.shiftRight_eq_div_pow, Reference.field]

/-- A one-bit field is its bit. -/
theorem field_bit (f : Frame) (i : Nat) : Reference.field f i 1 = (f.getLsbD i).toNat := by
  rw [Reference.field, BitVec.getLsbD, Nat.toNat_testBit, pow_one]

theorem operand_eq (f : Frame) : Reference.operand f = sint32 (f.extractLsb' 0 32) := by
  have sign : (f.extractLsb' 0 32).getLsbD 31 = f.getLsbD 31 := by simp
  rw [Reference.operand, sint32, uint_extractLsb', field_bit, sign]
  cases f.getLsbD 31 <;> rfl

theorem delta_eq (f : Frame) : Reference.delta f = tempDelta (Req.ofFrame f).cal.c5 (f.extractLsb' 32 24) := by
  simp only [Reference.delta, tempDelta, Req.ofFrame, uint_extractLsb']

theorem temp_eq (f : Frame) :
    Reference.temp f
      = temperature (Req.ofFrame f).cal.c6 (tempDelta (Req.ofFrame f).cal.c5 (f.extractLsb' 32 24)) := by
  rw [← delta_eq]
  simp only [Reference.temp, temperature, Req.ofFrame, uint_extractLsb', tdiv_eq_tdiv]

theorem press_eq (f : Frame) :
    Reference.press f = pressure (Req.ofFrame f).cal (f.extractLsb' 32 24) (sint32 (f.extractLsb' 0 32)) := by
  rw [← operand_eq]
  simp only [Reference.press, Reference.sens, Reference.off, pressure, pressQuot, pressSens, pressOff, Req.ofFrame,
    uint_extractLsb', tdiv_eq_tdiv]

/-- A zero result adds nothing to the number. -/
theorem place_zero (lo : Nat) : Reference.place 0 lo = 0 := by simp [Reference.place]

theorem tempResp_eq_ofNat (t dt : Int) :
    tempResp t dt
      = BitVec.ofNat 128 (0x01010000000000000000000000000000 + Reference.place t 64 + Reference.place dt 32) := by
  have head : Status.ok.code.toNat * 2 ^ 120 + Valid.temp.pv.toNat * 2 ^ 113 + Valid.temp.tv.toNat * 2 ^ 112
      = 0x01010000000000000000000000000000 := by decide
  rw [tempResp, mkResp_eq_ofNat, head, place_zero, add_zero]

theorem pressResp_eq_ofNat (p : Int) :
    pressResp p = BitVec.ofNat 128 (0x01020000000000000000000000000000 + Reference.place p 0) := by
  have head : Status.ok.code.toNat * 2 ^ 120 + Valid.press.pv.toNat * 2 ^ 113 + Valid.press.tv.toNat * 2 ^ 112
      = 0x01020000000000000000000000000000 := by decide
  rw [pressResp, mkResp_eq_ofNat, head, place_zero, place_zero, add_zero, add_zero]

/-! ### The response to a frame, case by case (60_exceptions.md R145) -/

theorem respond_of_not_legal {f : Frame} (h : ¬ legalFrame f) : Reference.respond f = bareResp .errIllegal := by
  rw [Reference.respond, if_pos ((not_selected_iff f).mpr h)]
  decide

theorem respond_of_not_calibrated {f : Frame} (h : legalFrame f) (hcal : f.getLsbD 160 = false) :
    Reference.respond f = bareResp .errNotCalibrated := by
  rw [Reference.respond, if_neg ((not_selected_iff f).not.mpr (not_not.mpr h)), field_bit, hcal, if_pos (by decide)]
  decide

theorem respond_of_ctemp {f : Frame} (h : legalFrame f) (hcal : f.getLsbD 160 = true)
    (hop : f.extractLsb' 168 8 = 0x01#8) :
    Reference.respond f = tempResp (Reference.temp f) (Reference.delta f) := by
  rw [Reference.respond, if_neg ((not_selected_iff f).not.mpr (not_not.mpr h)), field_bit, hcal, if_neg (by decide),
    ← uint_extractLsb', hop, if_pos (by decide), tempResp_eq_ofNat]

theorem respond_of_cpres {f : Frame} (h : legalFrame f) (hcal : f.getLsbD 160 = true)
    (hop : f.extractLsb' 168 8 = 0x02#8) : Reference.respond f = pressResp (Reference.press f) := by
  rw [Reference.respond, if_neg ((not_selected_iff f).not.mpr (not_not.mpr h)), field_bit, hcal, if_neg (by decide),
    ← uint_extractLsb', hop, if_neg (by decide), pressResp_eq_ofNat]

/-- The four kinds of response, each with the frames it is given to. -/
theorem respond_cases (f : Frame) :
    (¬ legalFrame f ∧ Reference.respond f = bareResp .errIllegal)
      ∨ (legalFrame f ∧ f.getLsbD 160 = false ∧ Reference.respond f = bareResp .errNotCalibrated)
      ∨ (legalFrame f ∧ f.getLsbD 160 = true ∧ f.extractLsb' 168 8 = 0x01#8
        ∧ Reference.respond f = tempResp (Reference.temp f) (Reference.delta f))
      ∨ (legalFrame f ∧ f.getLsbD 160 = true ∧ f.extractLsb' 168 8 = 0x02#8
        ∧ Reference.respond f = pressResp (Reference.press f)) := by
  by_cases h : legalFrame f
  · cases hcal : f.getLsbD 160 with
    | false => exact .inr (.inl ⟨h, rfl, respond_of_not_calibrated h hcal⟩)
    | true =>
      obtain hop | hop := h.1
      · exact .inr (.inr (.inl ⟨h, rfl, hop, respond_of_ctemp h hcal hop⟩))
      · exact .inr (.inr (.inr ⟨h, rfl, hop, respond_of_cpres h hcal hop⟩))
  · exact .inl ⟨h, respond_of_not_legal h⟩

/-! ### What each request answers -/

theorem exec_ctemp_calibrated (cal : Coefs) (d2 : Sample) (s : State) :
    exec (.ctemp true cal d2) s
      = .next { s with resp := tempResp (temperature cal.c6 (tempDelta cal.c5 d2)) (tempDelta cal.c5 d2) } := rfl

theorem exec_cpres_calibrated (cal : Coefs) (d1 : Sample) (dt : Word32) (s : State) :
    exec (.cpres true cal d1 dt) s = .next { s with resp := pressResp (pressure cal d1 (sint32 dt)) } := rfl

theorem exec_ctemp_not_calibrated (cal : Coefs) (d2 : Sample) (s : State) :
    exec (.ctemp false cal d2) s = .next { s with resp := bareResp .errNotCalibrated } := rfl

theorem exec_cpres_not_calibrated (cal : Coefs) (d1 : Sample) (dt : Word32) (s : State) :
    exec (.cpres false cal d1 dt) s = .next { s with resp := bareResp .errNotCalibrated } := rfl

/-- A submitted frame writes the one-page function of its bits into `RESP`. -/
theorem execFrame_eq_respond (f : Frame) (s : State) : execFrame f s = .next { s with resp := Reference.respond f } := by
  by_cases h : legalFrame f
  · obtain hop | hop := h.1
    · rw [execFrame_of_request (decode_of_ctemp h hop)]
      cases hcal : f.getLsbD 160 with
      | false => rw [exec_ctemp_not_calibrated, respond_of_not_calibrated h hcal]
      | true => rw [exec_ctemp_calibrated, respond_of_ctemp h hcal hop, temp_eq, delta_eq]
    · rw [execFrame_of_request (decode_of_cpres h hop)]
      cases hcal : f.getLsbD 160 with
      | false => rw [exec_cpres_not_calibrated, respond_of_not_calibrated h hcal]
      | true => rw [exec_cpres_calibrated, respond_of_cpres h hcal hop, press_eq]
  · obtain ⟨c, hdec⟩ := decode_of_not_legal h
    rw [execFrame_of_illegal hdec, respond_of_not_legal h]
    rfl

/-- Settles O40: the presented frame is what the step executes, whatever the state. -/
theorem responseIsFunctionOfFrame : Obligations.ResponseIsFunctionOfFrame := by
  unfold Obligations.ResponseIsFunctionOfFrame
  intro f s
  rw [step_present]
  exact execFrame_eq_respond f s

/-! ### The ranges of the results (40_arithmetic.md R95) -/

/-- A dividend between two bounds has its quotient between theirs. -/
theorem tdiv_range {a lo hi n : Int} (hn : 0 < n) (hlo : lo ≤ a) (hhi : a ≤ hi) :
    tdiv lo n ≤ tdiv a n ∧ tdiv a n ≤ tdiv hi n :=
  ⟨tdiv_mono hn hlo, tdiv_mono hn hhi⟩

theorem tempDelta_range (c5 : Coef) (d2 : Sample) : -16776960 ≤ tempDelta c5 d2 ∧ tempDelta c5 d2 ≤ 16777215 := by
  have hc0 := uint_nonneg c5
  have hc1 := uint_coef_le c5
  have hd0 := uint_nonneg d2
  have hd1 := uint_sample_le d2
  unfold tempDelta Config.c5Scale
  omega

/-- The range of `T` for a `dT` that CTEMP can produce. -/
theorem temperature_range (c6 : Coef) {dT : Int} (hlo : -16776960 ≤ dT) (hhi : dT ≤ 16777215) :
    -129068 ≤ temperature c6 dT ∧ temperature c6 dT ≤ 133069 := by
  have hprod := mul_range (uint_nonneg c6) (uint_coef_le c6) hlo hhi (by decide) (by decide)
  have hquot := tdiv_range (n := 8388608) (by decide) hprod.1 hprod.2
  have lower : tdiv (65535 * -16776960) 8388608 = -131068 := by decide
  have upper : tdiv (65535 * 16777215) 8388608 = 131069 := by decide
  rw [lower, upper] at hquot
  rw [temperature, mul_comm dT]
  unfold Config.tOffset Config.tScale
  omega

/-- The range of `OFF` for a `dT` in an interval around zero. -/
theorem pressOff_range (c2 c4 : Coef) {dT lo hi : Int} (hlo : lo ≤ dT) (hhi : dT ≤ hi) (h0 : lo ≤ 0) (h1 : 0 ≤ hi) :
    tdiv (65535 * lo) 128 ≤ pressOff c2 c4 dT ∧ pressOff c2 c4 dT ≤ 4294901760 + tdiv (65535 * hi) 128 := by
  have hprod := mul_range (uint_nonneg c4) (uint_coef_le c4) hlo hhi h0 h1
  have hquot := tdiv_range (n := 128) (by decide) hprod.1 hprod.2
  have hc0 := uint_nonneg c2
  have hc1 := uint_coef_le c2
  unfold pressOff Config.c2Scale Config.offDiv
  omega

/-- The range of `SENS` for a `dT` in an interval around zero. -/
theorem pressSens_range (c1 c3 : Coef) {dT lo hi : Int} (hlo : lo ≤ dT) (hhi : dT ≤ hi) (h0 : lo ≤ 0) (h1 : 0 ≤ hi) :
    tdiv (65535 * lo) 256 ≤ pressSens c1 c3 dT ∧ pressSens c1 c3 dT ≤ 2147450880 + tdiv (65535 * hi) 256 := by
  have hprod := mul_range (uint_nonneg c3) (uint_coef_le c3) hlo hhi h0 h1
  have hquot := tdiv_range (n := 256) (by decide) hprod.1 hprod.2
  have hc0 := uint_nonneg c1
  have hc1 := uint_coef_le c1
  unfold pressSens Config.c1Scale Config.sensDiv
  omega

/-- The range of `q` for a `SENS` in an interval around zero. -/
theorem pressQuot_range (d1 : Sample) {sens lo hi : Int} (hlo : lo ≤ sens) (hhi : sens ≤ hi) (h0 : lo ≤ 0)
    (h1 : 0 ≤ hi) :
    tdiv (16777215 * lo) 2097152 ≤ pressQuot d1 sens ∧ pressQuot d1 sens ≤ tdiv (16777215 * hi) 2097152 := by
  have hprod := mul_range (uint_nonneg d1) (uint_sample_le d1) hlo hhi h0 h1
  exact tdiv_range (by decide) hprod.1 hprod.2

/-- The range of `P` for any 32-bit `dT`. -/
theorem pressure_range (cal : Coefs) (d1 : Sample) {dT : Int} (hlo : -2147483648 ≤ dT) (hhi : dT ≤ 2147483647) :
    -167900661 ≤ pressure cal d1 dT ∧ pressure cal d1 dT ≤ 168293871 := by
  have hoff : -1099494850560 ≤ pressOff cal.c2 cal.c4 dT ∧ pressOff cal.c2 cal.c4 dT ≤ 1103789751808 :=
    pressOff_range cal.c2 cal.c4 hlo hhi (by decide) (by decide)
  have hsens : -549747425280 ≤ pressSens cal.c1 cal.c3 dT ∧ pressSens cal.c1 cal.c3 dT ≤ 551894875904 :=
    pressSens_range cal.c1 cal.c3 hlo hhi (by decide) (by decide)
  have hquot : -4397979140100 ≤ pressQuot d1 (pressSens cal.c1 cal.c3 dT)
      ∧ pressQuot d1 (pressSens cal.c1 cal.c3 dT) ≤ 4415158744068 :=
    pressQuot_range d1 hsens.1 hsens.2 (by decide) (by decide)
  have hnum : -5501768891908 ≤ pressQuot d1 (pressSens cal.c1 cal.c3 dT) - pressOff cal.c2 cal.c4 dT
      ∧ pressQuot d1 (pressSens cal.c1 cal.c3 dT) - pressOff cal.c2 cal.c4 dT ≤ 5514653594628 := by omega
  exact tdiv_range (n := 32768) (by decide) hnum.1 hnum.2

/-! ### STATUS and the valid flags of each kind of response (R22, R23) -/

theorem bareResp_status_flags (st : Status) :
    respStatus (bareResp st) = st.code ∧ respTV (bareResp st) = false ∧ respPV (bareResp st) = false :=
  ⟨respStatus_mkResp .., respTV_mkResp .., respPV_mkResp ..⟩

theorem tempResp_status_flags (t dt : Int) :
    respStatus (tempResp t dt) = 0x01#8 ∧ respTV (tempResp t dt) = true ∧ respPV (tempResp t dt) = false :=
  ⟨respStatus_mkResp .., respTV_mkResp .., respPV_mkResp ..⟩

theorem pressResp_status_flags (p : Int) :
    respStatus (pressResp p) = 0x01#8 ∧ respTV (pressResp p) = false ∧ respPV (pressResp p) = true :=
  ⟨respStatus_mkResp .., respTV_mkResp .., respPV_mkResp ..⟩

/-! ### The four shapes (R25) -/

theorem noResult_bareResp (st : Status) : noResult (bareResp st) :=
  ⟨respPV_mkResp .., respTV_mkResp .., respT_mkResp .., respDT_mkResp .., respP_mkResp ..⟩

theorem resetShape_bareResp : resetShape (bareResp .none) := ⟨respStatus_mkResp .., noResult_bareResp _⟩

theorem errorShape_errNotCalibrated : errorShape (bareResp .errNotCalibrated) :=
  ⟨.inl (respStatus_mkResp ..), noResult_bareResp _⟩

theorem errorShape_errIllegal : errorShape (bareResp .errIllegal) :=
  ⟨.inr (respStatus_mkResp ..), noResult_bareResp _⟩

/-- A CTEMP response holds its results in their ranges, which are far inside 32 bits. -/
theorem tempShape_tempResp (c5 c6 : Coef) (d2 : Sample) :
    tempShape (tempResp (temperature c6 (tempDelta c5 d2)) (tempDelta c5 d2)) := by
  obtain ⟨hd0, hd1⟩ := tempDelta_range c5 d2
  obtain ⟨ht0, ht1⟩ := temperature_range c6 hd0 hd1
  unfold tempShape tempResp
  rw [respT_mkResp, respDT_mkResp, toS32_toInt (by omega) (by omega), toS32_toInt (by omega) (by omega)]
  exact ⟨respStatus_mkResp .., respPV_mkResp .., respTV_mkResp .., respP_mkResp .., ht0, ht1, hd0, hd1⟩

/-- A CPRES response holds its result in its range, whatever 32-bit `dT` it was computed from. -/
theorem pressShape_pressResp (cal : Coefs) (d1 : Sample) (dt : Word32) :
    pressShape (pressResp (pressure cal d1 (sint32 dt))) := by
  obtain ⟨hdt0, hdt1⟩ := sint32_range dt
  obtain ⟨hp0, hp1⟩ := pressure_range cal d1 hdt0 hdt1
  unfold pressShape pressResp
  rw [respP_mkResp, toS32_toInt (by omega) (by omega)]
  exact ⟨respStatus_mkResp .., respPV_mkResp .., respTV_mkResp .., respT_mkResp .., respDT_mkResp .., by omega, by omega⟩

/-- A built response of one of the shapes is legal: its `VZ` and `RZ` are zero whatever it holds. -/
theorem legalResp_mkResp {st : Status} {v : Valid} {t dt p : Int}
    (h : resetShape (mkResp st v t dt p) ∨ tempShape (mkResp st v t dt p) ∨ pressShape (mkResp st v t dt p)
      ∨ errorShape (mkResp st v t dt p)) : legalResp (mkResp st v t dt p) :=
  ⟨respVZ_mkResp .., respRZ_mkResp .., h⟩

theorem legalResp_zero : legalResp 0#128 := by
  rw [← bareResp_none]
  exact legalResp_mkResp (.inl resetShape_bareResp)

/-- Every frame is answered with a legal response. -/
theorem legalResp_respond (f : Frame) : legalResp (Reference.respond f) := by
  obtain ⟨-, hr⟩ | ⟨-, -, hr⟩ | ⟨-, -, -, hr⟩ | ⟨-, -, -, hr⟩ := respond_cases f
  · rw [hr]
    exact legalResp_mkResp (.inr (.inr (.inr errorShape_errIllegal)))
  · rw [hr]
    exact legalResp_mkResp (.inr (.inr (.inr errorShape_errNotCalibrated)))
  · rw [hr, temp_eq, delta_eq]
    exact legalResp_mkResp (.inr (.inl (tempShape_tempResp _ _ _)))
  · rw [hr, press_eq]
    exact legalResp_mkResp (.inr (.inr (.inl (pressShape_pressResp _ _ _))))

/-! ### The invariant -/

/-- Settles O10: the reset value has the shape "after reset", and nothing has been read. -/
theorem resetStateIsLegal : Obligations.ResetStateIsLegal := by
  unfold Obligations.ResetStateIsLegal
  exact ⟨legalResp_zero, fun r hr => absurd hr List.not_mem_nil⟩

/-- Every event keeps the invariant: a request and reset write a legal response, and a read adds the legal one that
stands there. -/
theorem takeEvent_keeps_inv {e : Event} {s t : State} (hs : Inv s) (ht : takeEvent e s = .next t) : Inv t := by
  obtain ⟨hresp, hreadings⟩ := hs
  cases e with
  | submit f =>
    obtain rfl := Host.Outcome.next.inj ((execFrame_eq_respond f s).symm.trans ht)
    exact ⟨legalResp_respond f, hreadings⟩
  | read =>
    obtain rfl := Host.Outcome.next.inj ((takeRead_eq s).symm.trans ht)
    refine ⟨hresp, fun r hr => ?_⟩
    obtain hold | hnew := List.mem_append.mp hr
    · exact hreadings r hold
    · exact List.mem_singleton.mp hnew ▸ hresp
  | reset =>
    obtain rfl := Host.Outcome.next.inj ((takeReset_eq s).symm.trans ht)
    exact ⟨legalResp_mkResp (.inl resetShape_bareResp), hreadings⟩

/-- Settles O11: a step is idle or takes its oldest event, which keeps the invariant. -/
theorem stepKeepsRespLegal : Obligations.StepKeepsRespLegal := by
  unfold Obligations.StepKeepsRespLegal
  intro s t hs ht
  cases hev : s.events with
  | nil =>
    rw [step_of_no_events hev] at ht
    exact Host.Outcome.next.inj ht ▸ hs
  | cons e es =>
    rw [step_of_events hev] at ht
    exact takeEvent_keeps_inv (s := { s with events := es }) hs ht

/-- In a legal response a result field without its valid flag is zero, and a flag stands exactly with `OK`. -/
theorem legalResp_usable {r : RespFrame} (h : legalResp r) :
    (tempUsable r = false → respT r = 0#32 ∧ respDT r = 0#32) ∧ (pressUsable r = false → respP r = 0#32)
      ∧ (tempUsable r = true ∨ pressUsable r = true ↔ respStatus r = 0x01#8) := by
  unfold tempUsable pressUsable
  obtain ⟨-, -, ⟨hst, hpv, htv, ht, hdt, hp⟩ | ⟨hst, hpv, htv, hp, -⟩ | ⟨hst, hpv, htv, ht, hdt, -⟩
    | ⟨hst, hpv, htv, ht, hdt, hp⟩⟩ := h
  · simp [hst, hpv, htv, ht, hdt, hp]
  · simp [hst, hpv, htv, hp]
  · simp [hst, hpv, htv, ht, hdt]
  · obtain hst | hst := hst <;> simp [hst, hpv, htv, ht, hdt, hp]

/-- Settles O48: what the legal shapes say of the flags, after a step that keeps `RESP` legal. -/
theorem unusableFieldsAreZero : Obligations.UnusableFieldsAreZero := by
  unfold Obligations.UnusableFieldsAreZero
  intro s t hs ht
  obtain ⟨hresp, -⟩ := stepKeepsRespLegal s t hs ht
  exact legalResp_usable hresp

/-! ### Reset (R30), and each shape from every state (R25) -/

/-- A presented reset writes the all-zero frame and changes nothing else (70_reset_and_hazards.md R170). -/
theorem step_present_reset (s : State) : step (s.present .reset) = .next { s with resp := 0#128 } := by
  rw [step_present, ← bareResp_none]
  exact takeReset_eq s

/-- A presented read adds what `RESP` holds to the readings and changes nothing else (R31). -/
theorem step_present_read (s : State) : step (s.present .read) = .next { s with readings := s.readings ++ [s.resp] } := by
  rw [step_present]
  exact takeRead_eq s

/-- Settles O9: reset writes the all-zero frame, and the step after it executes the request as if alone. -/
theorem resetClearsResp : Obligations.ResetClearsResp := by
  unfold Obligations.ResetClearsResp
  refine ⟨rfl, bareResp_none, bareResp_none ▸ resetShape_bareResp, step_present_reset, fun s f => ?_⟩
  have after_reset := responseIsFunctionOfFrame f { s with resp := 0#128 }
  refine ⟨_, ?_, responseIsFunctionOfFrame f s⟩
  rw [run_succ _ (step_present_reset _)]
  exact (run_succ 0 after_reset).trans (run_zero _)

/-- The encoding of a request decodes to that request (30_encoding.md R67). -/
theorem decode_encode (i : Instr) : decode (encode i) = .request i := by
  unfold decode encode
  rw [Req.ofFrame_toFrame]
  cases i <;> rfl

/-- The step on the encoding of a request is its meaning. -/
theorem step_present_encode (i : Instr) (s : State) : step (s.present (.submit (encode i))) = exec i s :=
  execFrame_of_request (decode_encode i) s

/-- The coefficients that are all zero. -/
def zeroCoefs : Coefs := ⟨0#16, 0#16, 0#16, 0#16, 0#16, 0#16⟩

/-- Settles O12: reset, a CTEMP and a CPRES of zero operands, a CTEMP that is not calibrated, and the all-zero frame,
which has no legal opcode. -/
theorem everyShapeOccurs : Obligations.EveryShapeOccurs := by
  unfold Obligations.EveryShapeOccurs
  intro s
  refine ⟨?reset, ?temp, ?press, ?notCalibrated, ?illegal⟩
  case reset => exact ⟨_, takeReset_eq s, resetShape_bareResp⟩
  case temp =>
    have hstep := (step_present_encode _ s).trans (exec_ctemp_calibrated zeroCoefs 0#24 s)
    exact ⟨_, _, hstep, tempShape_tempResp _ _ _⟩
  case press =>
    have hstep := (step_present_encode _ s).trans (exec_cpres_calibrated zeroCoefs 0#24 0#32 s)
    exact ⟨_, _, hstep, pressShape_pressResp _ _ _⟩
  case notCalibrated =>
    have hstep := (step_present_encode _ s).trans (exec_ctemp_not_calibrated zeroCoefs 0#24 s)
    exact ⟨_, _, hstep, errorShape_errNotCalibrated, (bareResp_status_flags _).1⟩
  case illegal =>
    have hdec : decode 0#176 = .illegal .opcode := by decide
    have hstep : step (s.present (.submit 0#176)) = .next (s.raise .errIllegal) := execFrame_of_illegal hdec s
    exact ⟨_, _, hstep, errorShape_errIllegal, (bareResp_status_flags _).1⟩

/-! ### Runs (R22, R23) -/

/-- A run of events takes one step an event, in order, and ends with the `RESP` and the readings that the order gives. -/
theorem run_events (evs rest : List Event) (s : State) :
    run evs.length { s with events := evs ++ rest }
      = .next { resp := respAfter s.resp evs, events := rest, readings := s.readings ++ readsOf s.resp evs } := by
  induction evs generalizing s with
  | nil =>
    rw [readsOf, List.append_nil]
    exact run_zero _
  | cons e es ih =>
    cases e with
    | submit f =>
      exact (run_succ _ (responseIsFunctionOfFrame f { s with events := es ++ rest })).trans
        (ih { s with resp := Reference.respond f })
    | read =>
      have taken := (run_succ es.length (step_present_read { s with events := es ++ rest })).trans
        (ih { s with readings := s.readings ++ [s.resp] })
      rwa [List.append_assoc] at taken
    | reset =>
      exact (run_succ _ (step_present_reset { s with events := es ++ rest })).trans (ih { s with resp := 0#128 })

/-- What a run leaves in `RESP` is told by its last event that writes it. -/
theorem respAfter_cases (r : RespFrame) (evs : List Event) :
    (lastWrite evs = none ∧ respAfter r evs = r) ∨ (lastWrite evs = some .reset ∧ respAfter r evs = 0#128)
      ∨ ∃ f, lastWrite evs = some (.submit f) ∧ respAfter r evs = Reference.respond f := by
  induction evs generalizing r with
  | nil => exact .inl ⟨rfl, rfl⟩
  | cons e es ih =>
    cases e with
    | submit f =>
      obtain ⟨hlast, hresp⟩ | ⟨hlast, hresp⟩ | ⟨g, hlast, hresp⟩ := ih (Reference.respond f) <;>
        simp [lastWrite, respAfter, hlast, hresp]
    | read =>
      obtain ⟨hlast, hresp⟩ | ⟨hlast, hresp⟩ | ⟨g, hlast, hresp⟩ := ih r <;>
        simp [lastWrite, respAfter, hlast, hresp]
    | reset =>
      obtain ⟨hlast, hresp⟩ | ⟨hlast, hresp⟩ | ⟨g, hlast, hresp⟩ := ih 0#128 <;>
        simp [lastWrite, respAfter, hlast, hresp]

/-- Settles O45: the run leaves the reset frame or the response to its last request, and each kind of response has its
own STATUS and flags. -/
theorem statusTellsLastRequest : Obligations.StatusTellsLastRequest := by
  unfold Obligations.StatusTellsLastRequest
  intro evs
  have hrun := run_events evs [] State.reset
  rw [List.append_nil] at hrun
  refine ⟨_, hrun, ?_⟩
  obtain ⟨hzero, hzeroTV, hzeroPV⟩ := bareResp_status_flags .none
  rw [bareResp_none] at hzero hzeroTV hzeroPV
  obtain ⟨hlast, hresp⟩ | ⟨hlast, hresp⟩ | ⟨f, hlast, hresp⟩ := respAfter_cases 0#128 evs
  · simp [hlast, hresp, hzero, hzeroTV, hzeroPV, Status.code]
  · simp [hlast, hresp, hzero, hzeroTV, hzeroPV, Status.code]
  · obtain ⟨hlegal, hr⟩ | ⟨hlegal, hcal, hr⟩ | ⟨hlegal, hcal, hop, hr⟩ | ⟨hlegal, hcal, hop, hr⟩ := respond_cases f
    · simp [hlast, hresp, hr, bareResp_status_flags, Status.code, hlegal]
    · simpa [hlast, hresp, hr, bareResp_status_flags, Status.code, hlegal] using hcal
    · simp [hlast, hresp, hr, tempResp_status_flags, hlegal, hcal, hop]
    · simp [hlast, hresp, hr, pressResp_status_flags, hlegal, hcal, hop]

end Sys2Proof.Machine

/-! Proofs for 20_memory.md: frames as bytes (R42, R44), the bytes of the operands (R43), reads and repeated requests
(R46), and the order of execution (R47). -/

namespace Sys2Proof.Machine

open Sys2Proof.Safety

/-! ### A field and its bytes (R42) -/

/-- The `n` bytes of a bit vector, offset 0 first: `frameBytes` for a field of any width. -/
def fieldBytes {w : Nat} (n : Nat) (b : BitVec w) : List Byte := (List.range n).map (fun k => byteAt n k b)

theorem frameBytes_eq_fieldBytes (f : Frame) : frameBytes f = fieldBytes 22 f := rfl

@[simp] theorem length_fieldBytes {w : Nat} (n : Nat) (b : BitVec w) : (fieldBytes n b).length = n := by
  simp [fieldBytes]

/-- The bytes of a field denote its number. -/
theorem bytesToNat_fieldBytes {w n : Nat} (b : BitVec w) (h : w ≤ 8 * n) : bytesToNat (fieldBytes n b) = b.toNat := by
  have fits : b.toNat < 256 ^ n :=
    calc b.toNat < 2 ^ w := b.isLt
      _ ≤ 2 ^ (8 * n) := Nat.pow_le_pow_right (by decide) h
      _ = 256 ^ n := pow_mul 2 8 n
  have whole := bytesToNat_firstBytes n b fits n le_rfl
  rwa [Nat.sub_self, pow_zero, Nat.div_one] at whole

/-- Byte sequences of one length denote different numbers: the last byte is the remainder by 256, and the bytes before
it the quotient. -/
theorem bytesToNat_injective {bs cs : List Byte} (hlen : bs.length = cs.length) (h : bytesToNat bs = bytesToNat cs) :
    bs = cs := by
  induction bs using List.reverseRecOn generalizing cs with
  | nil => exact (List.length_eq_zero_iff.mp hlen.symm).symm
  | append_singleton bs b ih =>
    obtain rfl | ⟨cs, c, rfl⟩ := cs.eq_nil_or_concat
    · simp at hlen
    · have hb := b.isLt
      have hc := c.isLt
      rw [List.concat_eq_append, bytesToNat_concat, bytesToNat_concat] at h
      have last : b = c := BitVec.eq_of_toNat_eq (by omega)
      rw [last, ih (by simpa using hlen) (by omega), List.concat_eq_append]

/-- The bytes of a field are the one sequence of their length that denotes its number. -/
theorem fieldBytes_eq {w : Nat} {b : BitVec w} {bs : List Byte} (hw : w ≤ 8 * bs.length)
    (h : b.toNat = bytesToNat bs) : fieldBytes bs.length b = bs :=
  bytesToNat_injective (length_fieldBytes _ b) ((bytesToNat_fieldBytes b hw).trans h)

/-- Fields joined at a byte boundary have their bytes one after the other. -/
theorem fieldBytes_append {w v : Nat} (m k : Nat) (hv : v = 8 * k) (hi : BitVec w) (lo : BitVec v) :
    fieldBytes (m + k) (hi ++ lo) = fieldBytes m hi ++ fieldBytes k lo := by
  unfold fieldBytes byteAt
  rw [List.range_add, List.map_append, List.map_map]
  refine congrArg₂ (· ++ ·) (List.map_congr_left fun j hj => ?high) (List.map_congr_left fun j hj => ?low)
  case high =>
    have hj := List.mem_range.mp hj
    rw [BitVec.extractLsb'_append_eq_of_le (by omega)]
    congr 1
    omega
  case low =>
    have hj := List.mem_range.mp hj
    rw [Function.comp_apply, BitVec.extractLsb'_append_eq_of_add_le (by omega)]
    congr 1
    omega

/-! ### Frames and sequences of 22 bytes (R42, R44) -/

theorem frameOfBytes_of_length {bs : List Byte} (h : bs.length = 22) :
    frameOfBytes bs = some (BitVec.ofNat 176 (bytesToNat bs)) := if_pos h

/-- A sequence that is no frame is not submitted. -/
theorem submitBytes_of_length_ne (s : State) {bs : List Byte} (h : bs.length ≠ 22) : s.submitBytes bs = s := by
  unfold State.submitBytes frameOfBytes
  rw [if_neg h]

theorem bytesToNat_frameBytes (f : Frame) : bytesToNat (frameBytes f) = f.toNat :=
  bytesToNat_fieldBytes f (n := 22) (by decide)

theorem frameOfBytes_frameBytes (f : Frame) : frameOfBytes (frameBytes f) = some f := by
  have whole : (frameBytes f).length = 22 := length_fieldBytes 22 f
  rw [frameOfBytes_of_length whole, bytesToNat_frameBytes, BitVec.ofNat_toNat, BitVec.setWidth_eq]

/-- The number of 22 bytes fits the frame, so its bytes are those. -/
theorem frameBytes_ofNat_bytesToNat {bs : List Byte} (h : bs.length = 22) :
    frameBytes (BitVec.ofNat 176 (bytesToNat bs)) = bs := by
  have fits : bytesToNat bs < 2 ^ 176 := by
    have hlt := bytesToNat_lt bs
    rwa [h] at hlt
  rw [frameBytes_eq_fieldBytes, ← h]
  exact fieldBytes_eq (by omega) (by rw [BitVec.toNat_ofNat, Nat.mod_eq_of_lt fits])

/-- Settles O5: the bytes of a frame denote its number, and a number has one sequence of 22 bytes. -/
theorem framesMoveAsBytes : Obligations.FramesMoveAsBytes := by
  unfold Obligations.FramesMoveAsBytes
  refine ⟨fun f => ⟨frameOfBytes_frameBytes f, bytesToNat_frameBytes f, rfl⟩, fun bs h => ?_, fun s bs h => ?_⟩
  · exact ⟨_, frameOfBytes_of_length h, frameBytes_ofNat_bytesToNat h⟩
  · exact submitBytes_of_length_ne s h

/-! ### The bytes of the operands (R43) -/

theorem sampleOfBytes_toNat (b0 b1 b2 : Byte) :
    (sampleOfBytes b0 b1 b2).toNat = b0.toNat * 65536 + b1.toNat * 256 + b2.toNat := by
  have h0 := b0.isLt
  have h1 := b1.isLt
  have h2 := b2.isLt
  rw [sampleOfBytes, BitVec.toNat_ofNat]
  omega

theorem coefOfBytes_toNat (b0 b1 : Byte) : (coefOfBytes b0 b1).toNat = b0.toNat * 256 + b1.toNat := by
  have h0 := b0.isLt
  have h1 := b1.isLt
  rw [coefOfBytes, BitVec.toNat_ofNat]
  omega

@[simp] theorem fieldBytes_byte (b : Byte) : fieldBytes 1 b = [b] :=
  fieldBytes_eq (bs := [b]) (by simp) (by simp [bytesToNat])

@[simp] theorem fieldBytes_coefOfBytes (b0 b1 : Byte) : fieldBytes 2 (coefOfBytes b0 b1) = [b0, b1] :=
  fieldBytes_eq (bs := [b0, b1]) (by simp) (by simp [bytesToNat, coefOfBytes_toNat])

@[simp] theorem fieldBytes_sampleOfBytes (b0 b1 b2 : Byte) : fieldBytes 3 (sampleOfBytes b0 b1 b2) = [b0, b1, b2] :=
  fieldBytes_eq (bs := [b0, b1, b2]) (by simp) (by simp [bytesToNat, sampleOfBytes_toNat]; omega)

/-- The four bytes of a `DT` given by its number. -/
theorem fieldBytes_word {dt : Word32} {e0 e1 e2 e3 : Byte}
    (h : dt.toNat = e0.toNat * 16777216 + e1.toNat * 65536 + e2.toNat * 256 + e3.toNat) :
    fieldBytes 4 dt = [e0, e1, e2, e3] :=
  fieldBytes_eq (bs := [e0, e1, e2, e3]) (by simp) (by simp [bytesToNat, h]; omega)

/-- The seven bits of a zero `RSV` and the bit `CALV` are one byte (30_encoding.md R61). -/
theorem zeroRsv_append_ofBool (v : Bool) : 0#7 ++ BitVec.ofBool v = if v then 0x01#8 else 0x00#8 := by
  cases v <;> rfl

/-- The bytes of each field of a frame, in the order of 30_encoding.md R61. -/
theorem frameBytes_toFrame (r : Req) :
    frameBytes r.toFrame
      = fieldBytes 1 r.op ++ fieldBytes 1 (r.rsv ++ BitVec.ofBool r.calv) ++ fieldBytes 2 r.cal.c1
        ++ fieldBytes 2 r.cal.c2 ++ fieldBytes 2 r.cal.c3 ++ fieldBytes 2 r.cal.c4 ++ fieldBytes 2 r.cal.c5
        ++ fieldBytes 2 r.cal.c6 ++ fieldBytes 1 r.dz ++ fieldBytes 3 r.d ++ fieldBytes 4 r.dt := by
  have opening : r.op ++ r.rsv ++ BitVec.ofBool r.calv = r.op ++ (r.rsv ++ BitVec.ofBool r.calv) :=
    BitVec.append_assoc
  rw [frameBytes_eq_fieldBytes, Req.toFrame, opening,
    fieldBytes_append 18 4 rfl, fieldBytes_append 15 3 rfl, fieldBytes_append 14 1 rfl, fieldBytes_append 12 2 rfl,
    fieldBytes_append 10 2 rfl, fieldBytes_append 8 2 rfl, fieldBytes_append 6 2 rfl, fieldBytes_append 4 2 rfl,
    fieldBytes_append 2 2 rfl, fieldBytes_append 1 1 rfl]

/-- Settles O6: each operand's bytes are those it was assembled from, and a frame's bytes are its fields' in order. -/
theorem operandBytesStayInOrder : Obligations.OperandBytesStayInOrder := by
  unfold Obligations.OperandBytesStayInOrder
  refine ⟨sampleOfBytes_toNat, coefOfBytes_toNat, ?_⟩
  intro v a0 a1 a2 a3 a4 a5 a6 a7 a8 a9 a10 a11 b0 b1 b2 e0 e1 e2 e3 cal dt hcal hdt
  have noDelta : fieldBytes 4 0#32 = [0x00#8, 0x00#8, 0x00#8, 0x00#8] := fieldBytes_word rfl
  have delta := fieldBytes_word hdt
  constructor
  · rw [encode, frameBytes_toFrame]
    simp [Instr.toReq, hcal, zeroRsv_append_ofBool, noDelta]
  · rw [encode, frameBytes_toFrame]
    simp [Instr.toReq, hcal, zeroRsv_append_ofBool, delta]

/-! ### Reads, repeats and the order of execution (R46, R47) -/

/-- A run of two steps, each to a next state. -/
theorem run_two {s t u : State} (first : step s = .next t) (second : step t = .next u) : run 2 s = .next u := by
  rw [run_succ 1 first, run_succ 0 second, run_zero]

/-- Settles O42: each step adds one reading or writes `RESP`, and what a request writes does not depend on the `RESP`
it finds. -/
theorem readsAndRepeatsAreIdempotent : Obligations.ReadsAndRepeatsAreIdempotent := by
  unfold Obligations.ReadsAndRepeatsAreIdempotent
  intro s f
  have twoReads := run_two (step_present_read (s.present .read))
    (step_present_read { s with readings := s.readings ++ [s.resp] })
  rw [List.append_assoc] at twoReads
  have repeated := run_two (responseIsFunctionOfFrame f (s.present (.submit f)))
    (responseIsFunctionOfFrame f { s with resp := Reference.respond f })
  exact ⟨step_present_read s, twoReads, _, responseIsFunctionOfFrame f s, repeated⟩

/-- Settles O43: the run lemma, by induction on the events. -/
theorem runExecutesInOrder : Obligations.RunExecutesInOrder := by
  unfold Obligations.RunExecutesInOrder
  exact run_events

end Sys2Proof.Machine

/-! Proofs for 30_encoding.md: legality by fields and by rows (R64), the decoder (R65, R66), the canonical encoding
(R67), the assembler (R70) and READP (R71). -/

namespace Sys2Proof.Machine

open Sys2Proof.Safety

/-! ### Legality (R64) -/

/-- The decoder accepts exactly the legal frames. -/
theorem legalFrame_iff_decodes (f : Frame) : legalFrame f ↔ ∃ i, decode f = .request i :=
  (legalFrame_iff f).trans (decodeReq_accepts (Req.ofFrame f)).symm

/-- A frame is legal exactly when one of the two rows selects it. -/
theorem legalFrame_iff_selected (f : Frame) :
    legalFrame f ↔ f &&& ctempRow.mask = ctempRow.pattern ∨ f &&& cpresRow.mask = cpresRow.pattern := by
  rw [← not_iff_not, not_or]
  exact (not_selected_iff f).symm

/-- The rows differ in `OP`. -/
theorem not_both_selected (f : Frame) :
    ¬ (f &&& ctempRow.mask = ctempRow.pattern ∧ f &&& cpresRow.mask = cpresRow.pattern) := by
  rw [ctempRow_selects_iff, cpresRow_selects_iff]
  rintro ⟨⟨-, hctemp⟩, -, hcpres⟩
  rw [hctemp] at hcpres
  exact absurd hcpres (by decide)

/-- Every bit of the CPRES mask is one of the CTEMP mask, so the bits of the latter decide legality. -/
theorem legalFrame_congr {f g : Frame} (h : f &&& ctempRow.mask = g &&& ctempRow.mask) :
    legalFrame f ↔ legalFrame g := by
  have narrower : cpresRow.mask = ctempRow.mask &&& cpresRow.mask := by decide
  have hcpres : f &&& cpresRow.mask = g &&& cpresRow.mask := by
    rw [narrower, ← BitVec.and_assoc, ← BitVec.and_assoc, h]
  rw [legalFrame_iff_selected, legalFrame_iff_selected, h, hcpres]

/-- Settles O3: both rows select by `OP` and the other three conditions, and the decoder's checks are those too. -/
theorem legalByFieldsAndByMask : Obligations.LegalByFieldsAndByMask := by
  unfold Obligations.LegalByFieldsAndByMask
  intro f
  exact ⟨legalFrame_iff_selected f, not_both_selected f, legalFrame_iff_decodes f, legalFrame_iff f,
    fun _ => legalFrame_congr⟩

/-! ### The decoder (R65, R66) -/

/-- Settles O4: what the decoder answers on each kind of frame, with a slice of the frame read as the field there. -/
theorem decodeReadsEveryField : Obligations.DecodeReadsEveryField := by
  unfold Obligations.DecodeReadsEveryField
  intro f
  refine ⟨decode_of_not_legal, fun h hop => ?ctemp, fun h hop => ?cpres⟩
  case ctemp =>
    exact ⟨_, _, _, decode_of_ctemp h hop, (field_bit f 160).symm, uint_extractLsb' .., uint_extractLsb' ..,
      uint_extractLsb' .., uint_extractLsb' .., uint_extractLsb' .., uint_extractLsb' .., uint_extractLsb' ..⟩
  case cpres =>
    exact ⟨_, _, _, _, decode_of_cpres h (h.1.resolve_left hop), (field_bit f 160).symm, uint_extractLsb' ..,
      uint_extractLsb' .., uint_extractLsb' .., uint_extractLsb' .., uint_extractLsb' .., uint_extractLsb' ..,
      uint_extractLsb' .., (operand_eq f).symm⟩

/-- Settles O1: each frame is one closed word, which the decoder evaluates. -/
theorem writtenFramesDecode : Obligations.WrittenFramesDecode := by
  unfold Obligations.WrittenFramesDecode
  decide

/-! ### The canonical encoding (R67) -/

/-- Joined bit vectors are the number of their parts. -/
theorem append_toNat_eq_add {n m : Nat} (x : BitVec n) (y : BitVec m) :
    (x ++ y).toNat = x.toNat * 2 ^ m + y.toNat := by
  rw [BitVec.toNat_append, ← Nat.shiftLeft_add_eq_or_of_lt y.isLt, Nat.shiftLeft_eq]

/-- The frame of some fields is the number of those fields, each at its bit position (R61). -/
theorem toFrame_toNat (r : Req) :
    r.toFrame.toNat = r.op.toNat * 2 ^ 168 + r.rsv.toNat * 2 ^ 161 + r.calv.toNat * 2 ^ 160 + r.cal.c1.toNat * 2 ^ 144
      + r.cal.c2.toNat * 2 ^ 128 + r.cal.c3.toNat * 2 ^ 112 + r.cal.c4.toNat * 2 ^ 96 + r.cal.c5.toNat * 2 ^ 80
      + r.cal.c6.toNat * 2 ^ 64 + r.dz.toNat * 2 ^ 56 + r.d.toNat * 2 ^ 32 + r.dt.toNat := by
  simp only [Req.toFrame, append_toNat_eq_add, BitVec.toNat_ofBool]
  ring

/-- Fields that the decoder accepts are the canonical fields of the request it reads from them: what the request does
not carry is fixed by legality. -/
theorem toReq_of_decodeReq {r : Req} {i : Instr} (h : decodeReq r = .request i) : i.toReq = r := by
  obtain ⟨op, rsv, calv, cal, dz, d, dt⟩ := r
  obtain ⟨rfl, rfl, ⟨rfl, rfl, rfl⟩ | ⟨rfl, rfl⟩⟩ := decodeReq_request _ i h
  · rfl
  · rfl

/-- A frame that decodes to a request is the encoding of that request. -/
theorem encode_of_decode {f : Frame} {i : Instr} (h : decode f = .request i) : encode i = f := by
  rw [encode, toReq_of_decodeReq h, Req.toFrame_ofFrame]

/-- The encoding of a request is a legal frame. -/
theorem legalFrame_encode (i : Instr) : legalFrame (encode i) := (legalFrame_iff_decodes _).mpr ⟨i, decode_encode i⟩

/-- Settles O2: the encoding is the number of the canonical fields, and it is the one frame that decodes to its
request. -/
theorem canonicalEncoding : Obligations.CanonicalEncoding := by
  unfold Obligations.CanonicalEncoding
  refine ⟨fun v cal d2 => ?ctemp, fun v cal d1 dt => ?cpres, decode_encode,
    fun _ _ => encode_of_decode, fun i => ?unique⟩
  case ctemp =>
    rw [encode, toFrame_toNat]
    simp [Instr.toReq]
  case cpres =>
    rw [encode, toFrame_toNat]
    simp [Instr.toReq]
  case unique => exact ⟨encode i, ⟨legalFrame_encode i, decode_encode i⟩, fun f hf => (encode_of_decode hf.2).symm⟩

/-! ### The operands of the assembler (R70) -/

theorem Numeral.value_of_unsigned {x : Numeral} (h : x.neg = false) : x.value = x.mag := by
  simp [Numeral.value, h]

/-- The accepted unsigned operands, and their bits. -/
theorem asmUnsigned_eq_some_iff {n : Nat} {x : Numeral} {b : BitVec n} :
    asmUnsigned n x = some b ↔ x.neg = false ∧ b.toNat = x.mag := by
  unfold asmUnsigned
  constructor
  · intro h
    split_ifs at h with hx
    obtain rfl := Option.some.inj h
    exact ⟨hx.1, by rw [BitVec.toNat_ofNat, Nat.mod_eq_of_lt hx.2]⟩
  · rintro ⟨hneg, hmag⟩
    rw [if_pos ⟨hneg, hmag ▸ b.isLt⟩, ← hmag, BitVec.ofNat_toNat, BitVec.setWidth_eq]

theorem asmUnsigned_isSome_iff {n : Nat} {x : Numeral} :
    (asmUnsigned n x).isSome ↔ x.neg = false ∧ x.mag < 2 ^ n := by
  unfold asmUnsigned
  split_ifs with h <;> simp [h]

/-- The accepted values of `v`, and the bit. -/
theorem asmFlag_eq_some_iff {x : Numeral} {b : Bool} : asmFlag x = some b ↔ x.neg = false ∧ b.toNat = x.mag := by
  obtain ⟨neg, mag⟩ := x
  match neg, mag with
  | true, _ => simp [asmFlag]
  | false, 0 => cases b <;> simp [asmFlag]
  | false, 1 => cases b <;> simp [asmFlag]
  | false, n + 2 =>
    have big : b.toNat ≠ n + 2 := by
      have := b.toNat_le
      omega
    simp [asmFlag, big]

/-- The accepted values of `dt`. -/
theorem asmSigned32_isSome_iff {x : Numeral} :
    (asmSigned32 x).isSome ↔ -2147483648 ≤ x.value ∧ x.value ≤ 2147483647 := by
  unfold asmSigned32
  split_ifs with h <;> simp [h]

/-- The field of an accepted `dt` has its value. -/
theorem sint32_of_asmSigned32 {x : Numeral} {b : Word32} (h : asmSigned32 x = some b) : sint32 b = x.value := by
  unfold asmSigned32 at h
  split_ifs at h with hx
  obtain rfl := Option.some.inj h
  exact sint32_toS32 hx.1 hx.2

/-- The coefficients are assembled exactly when each of the six operands is accepted. -/
theorem asmCoefs_eq_some_iff {x1 x2 x3 x4 x5 x6 : Numeral} {cal : Coefs} :
    asmCoefs x1 x2 x3 x4 x5 x6 = some cal ↔
      asmUnsigned 16 x1 = some cal.c1 ∧ asmUnsigned 16 x2 = some cal.c2 ∧ asmUnsigned 16 x3 = some cal.c3
      ∧ asmUnsigned 16 x4 = some cal.c4 ∧ asmUnsigned 16 x5 = some cal.c5 ∧ asmUnsigned 16 x6 = some cal.c6 := by
  unfold asmCoefs
  constructor
  · intro h
    split at h
    · rename_i h1 h2 h3 h4 h5 h6
      obtain rfl := Option.some.inj h
      exact ⟨h1, h2, h3, h4, h5, h6⟩
    · exact absurd h (by simp)
  · rintro ⟨h1, h2, h3, h4, h5, h6⟩
    rw [h1, h2, h3, h4, h5, h6]

theorem asmCtemp_eq_some_iff {v d2 : Numeral} {cal : Coefs} {i : Instr} :
    asmCtemp v cal d2 = some i ↔ ∃ b d, asmFlag v = some b ∧ asmUnsigned 24 d2 = some d ∧ i = .ctemp b cal d := by
  unfold asmCtemp
  constructor
  · intro h
    split at h
    · rename_i b d hv hd
      exact ⟨b, d, hv, hd, (Option.some.inj h).symm⟩
    · exact absurd h (by simp)
  · rintro ⟨b, d, hv, hd, rfl⟩
    rw [hv, hd]

theorem asmCpres_eq_some_iff {v d1 dt : Numeral} {cal : Coefs} {i : Instr} :
    asmCpres v cal d1 dt = some i ↔
      ∃ b d t, asmFlag v = some b ∧ asmUnsigned 24 d1 = some d ∧ asmSigned32 dt = some t ∧ i = .cpres b cal d t := by
  unfold asmCpres
  constructor
  · intro h
    split at h
    · rename_i b d t hv hd ht
      exact ⟨b, d, t, hv, hd, ht, (Option.some.inj h).symm⟩
    · exact absurd h (by simp)
  · rintro ⟨b, d, t, hv, hd, ht, rfl⟩
    rw [hv, hd, ht]

/-- Settles O49: the operands' lemmas; without a sign the value is the magnitude, and with one only `dt` is accepted. -/
theorem assemblerChecksRanges : Obligations.AssemblerChecksRanges := by
  unfold Obligations.AssemblerChecksRanges
  refine ⟨fun n x hx => ⟨?unsignedRange, fun b hb => ?unsignedValue⟩, fun n x hx => ?unsignedSign,
    fun x => ⟨asmSigned32_isSome_iff, fun b => sint32_of_asmSigned32⟩,
    fun x hx => ⟨?flagRange, fun b hb => ?flagValue⟩, fun x hx => ?flagSign,
    fun _ _ _ _ _ _ _ => asmCoefs_eq_some_iff, fun _ _ _ _ => asmCtemp_eq_some_iff,
    fun _ _ _ _ _ => asmCpres_eq_some_iff⟩
  case unsignedRange =>
    rw [asmUnsigned_isSome_iff, Numeral.value_of_unsigned hx, and_iff_right hx]
    norm_cast
  case unsignedValue =>
    rw [Numeral.value_of_unsigned hx, uint, (asmUnsigned_eq_some_iff.mp hb).2]
  case unsignedSign =>
    rw [← Option.not_isSome_iff_eq_none, asmUnsigned_isSome_iff, hx]
    simp
  case flagRange =>
    rw [Option.isSome_iff_exists, Bool.exists_bool, asmFlag_eq_some_iff, asmFlag_eq_some_iff,
      Numeral.value_of_unsigned hx]
    simp [hx, eq_comm]
  case flagValue =>
    rw [Numeral.value_of_unsigned hx, (asmFlag_eq_some_iff.mp hb).2]
  case flagSign =>
    rw [Option.eq_none_iff_forall_ne_some]
    intro b hb
    simp [asmFlag_eq_some_iff, hx] at hb

/-! ### The lines of the assembler (R70) -/

theorem asmReadp_ne_request (v d2 d1 : Numeral) (cal : Coefs) (f : Frame) :
    asmReadp v cal d2 d1 ≠ some (.request f) := by
  unfold asmReadp
  split <;> simp

/-- A mnemonic line that is a request is the encoding of one: its frame comes from `asmCtemp` or `asmCpres`, while READP
is no frame. -/
theorem asmItem_request {cal : Option Coefs} {mnemonic : List Char} {ops : List (List Char)} {f : Frame}
    (h : asmItem cal mnemonic ops = some (.request f)) : ∃ i, encode i = f := by
  have encoded {o : Option Instr} (ho : o.map (fun i => Item.request (encode i)) = some (.request f)) :
      ∃ i, encode i = f := by
    obtain ⟨i, -, hi⟩ := Option.map_eq_some_iff.mp ho
    exact ⟨i, Item.request.inj hi⟩
  unfold asmItem at h
  split at h
  case h_1 => simp at h
  case h_2 =>
    split at h
    case h_2 => simp at h
    case h_1 =>
      split at h
      case h_1 =>
        split_ifs at h
        exact encoded h
      case h_2 =>
        split_ifs at h
        · exact encoded h
        · exact absurd h (asmReadp_ne_request _ _ _ _ _)
      case h_3 => simp at h

/-- Settles O50: the frame of a mnemonic line is an encoding, which is legal and decodes to its request. -/
theorem assemblerEmitsLegalFrames : Obligations.AssemblerEmitsLegalFrames := by
  unfold Obligations.AssemblerEmitsLegalFrames
  intro cal mnemonic ops f h
  obtain ⟨i, rfl⟩ := asmItem_request h
  exact ⟨legalFrame_encode i, i, decode_encode i, rfl⟩

/-! ### READP (R71) -/

/-- The range of `P` for a `dT` that CTEMP can produce (42_pressure.md R122). -/
theorem pressure_range_of_reachable (cal : Coefs) (d1 : Sample) {dT : Int} (hlo : -16776960 ≤ dT)
    (hhi : dT ≤ 16777215) : -1441753 ≤ pressure cal d1 dT ∧ pressure cal d1 dT ≤ 1834975 := by
  have hoff := pressOff_range cal.c2 cal.c4 hlo hhi (by decide) (by decide)
  have hsens := pressSens_range cal.c1 cal.c3 hlo hhi (by decide) (by decide)
  have hquot := pressQuot_range d1 hsens.1 hsens.2 (by decide) (by decide)
  exact tdiv_range (n := 32768) (by decide) (Int.sub_le_sub hquot.1 hoff.2) (Int.sub_le_sub hquot.2 hoff.1)

/-- What READP does at the port, from the answer to its CTEMP. -/
theorem readp_of_ctemp {calv : Bool} {cal : Coefs} {d2 d1 : Sample} {s s' : State}
    (h : exec (.ctemp calv cal d2) s = .next s') :
    readp calv cal d2 d1 s
      = if respStatus s'.resp = 0x01#8 then exec (.cpres calv cal d1 (respDT s'.resp)) s' else .next s' := by
  unfold readp forwardDelta
  rw [step_present_encode, h]
  dsimp only
  rw [step_present_encode]
  rfl

/-- With a loaded calibration the delta that CTEMP answers is forwarded whole. -/
theorem readp_calibrated (cal : Coefs) (d2 d1 : Sample) (s : State) :
    readp true cal d2 d1 s = .next { s with resp := pressResp (pressure cal d1 (tempDelta cal.c5 d2)) } := by
  obtain ⟨hd0, hd1⟩ := tempDelta_range cal.c5 d2
  have forwarded (t : Int) : sint32 (respDT (tempResp t (tempDelta cal.c5 d2))) = tempDelta cal.c5 d2 := by
    rw [tempResp, respDT_mkResp, sint32_toS32 (by omega) (by omega)]
  rw [readp_of_ctemp (exec_ctemp_calibrated cal d2 s), if_pos (tempResp_status_flags _ _).1, exec_cpres_calibrated,
    forwarded]

/-- Without a calibration READP stops after its CTEMP. -/
theorem readp_not_calibrated (cal : Coefs) (d2 d1 : Sample) (s : State) :
    readp false cal d2 d1 s = .next { s with resp := bareResp .errNotCalibrated } := by
  rw [readp_of_ctemp (exec_ctemp_not_calibrated cal d2 s), (bareResp_status_flags _).1, if_neg (by decide)]

/-- Settles O46: READP ends with the pressure of the forwarded delta, which is in the range of a reachable `dT`. -/
theorem readpComputesPressure : Obligations.ReadpComputesPressure := by
  unfold Obligations.ReadpComputesPressure
  intro cal d2 d1 s
  constructor
  · obtain ⟨hd0, hd1⟩ := tempDelta_range cal.c5 d2
    obtain ⟨hp0, hp1⟩ := pressure_range_of_reachable cal d1 hd0 hd1
    have hP : (respP (pressResp (pressure cal d1 (tempDelta cal.c5 d2)))).toInt
        = pressure cal d1 (tempDelta cal.c5 d2) := by
      rw [pressResp, respP_mkResp, toS32_toInt (by omega) (by omega)]
    obtain ⟨hstatus, htv, hpv⟩ := pressResp_status_flags (pressure cal d1 (tempDelta cal.c5 d2))
    refine ⟨_, readp_calibrated cal d2 d1 s, rfl, rfl, hstatus, hpv, htv, ?_, by rwa [hP], by rwa [hP]⟩
    rw [hP]
    simp only [pressure, pressQuot, pressSens, pressOff, tempDelta, tdiv_eq_tdiv]
  · have notCalibrated : bareResp .errNotCalibrated = 0x02000000000000000000000000000000#128 := by decide
    rw [readp_not_calibrated, notCalibrated]

end Sys2Proof.Machine

/-! Proofs for 40_arithmetic.md: division (R91, R92, R100), the constant products (R93), the range of every intermediate
(R95), fixed-width datapaths (R96), and the order of evaluation on the source's fixture (R99). -/

namespace Sys2Proof.Machine

/-! ### Truncating division (R91) -/

theorem tdiv_of_nonneg {a : Int} (ha : 0 ≤ a) (n : Int) : tdiv a n = a / n := if_pos ha

theorem tdiv_of_neg {a : Int} (ha : a < 0) (n : Int) : tdiv a n = -((-a) / n) := if_neg (by omega)

theorem tdiv_eq_neg_tdiv_neg (a n : Int) : tdiv a n = -tdiv (-a) n := by
  rw [tdiv_eq_tdiv, tdiv_eq_tdiv, Int.neg_tdiv, neg_neg]

/-- Dividing with a remainder that is smaller than the divisor and has the dividend's sign gives the truncating
quotient. -/
theorem eq_tdiv_of_remainder {a n q r : Int} (hn : 0 < n) (hdiv : a = q * n + r) (hr : |r| < n)
    (hsign : r = 0 ∨ (0 < r ↔ 0 < a) ∧ (r < 0 ↔ a < 0)) : q = tdiv a n := by
  obtain ⟨hr0, hr1⟩ := abs_lt.mp hr
  have hsum : r + n * q = a := by linarith
  rw [tdiv_eq_tdiv]
  obtain ha | ha := le_total 0 a
  · exact ((Int.tdiv_tmod_unique ha hn.ne').mpr ⟨hsum, by omega, by omega⟩).1.symm
  · exact ((Int.tdiv_tmod_unique' ha hn.ne').mpr ⟨hsum, by omega, by omega⟩).1.symm

/-- The truncating quotient leaves such a remainder. -/
theorem tdiv_remainder (a : Int) {n : Int} (hn : 0 < n) :
    ∃ r, a = tdiv a n * n + r ∧ |r| < n ∧ (r = 0 ∨ (0 < r ↔ 0 < a) ∧ (r < 0 ↔ a < 0)) := by
  obtain ⟨hnonneg, hnonpos⟩ := tdiv_spec a hn
  refine ⟨a - tdiv a n * n, by ring, ?_⟩
  obtain ha | ha := le_total 0 a
  · obtain ⟨hle, hlt⟩ := hnonneg ha
    exact ⟨abs_lt.mpr ⟨by omega, by omega⟩, by omega⟩
  · obtain ⟨hle, hlt⟩ := hnonpos ha
    exact ⟨abs_lt.mpr ⟨by omega, by omega⟩, by omega⟩

/-- Settles O13: the two cases are the definition, and a remainder of the dividend's sign pins the quotient. -/
theorem tdivTruncatesTowardZero : Obligations.TdivTruncatesTowardZero := by
  unfold Obligations.TdivTruncatesTowardZero
  refine ⟨fun a n hn => ?general, by decide, by decide, by decide, by decide, fun n => ?zero⟩
  case general =>
    refine ⟨fun ha => tdiv_of_nonneg ha n, fun ha => tdiv_of_neg ha n, tdiv_eq_tdiv a n, tdiv_eq_neg_tdiv_neg a n,
      fun q => ⟨?_, ?_⟩⟩
    · rintro ⟨r, hdiv, hr, hsign⟩
      exact eq_tdiv_of_remainder hn hdiv hr hsign
    · rintro rfl
      exact tdiv_remainder a hn
  case zero => rw [tdiv_of_nonneg le_rfl, Int.zero_ediv]

/-! ### Floor division and shifts (R92) -/

/-- The floor is below the truncating quotient exactly on the negative dividends that leave a remainder. -/
theorem ediv_eq_tdiv_sub (a : Int) {n : Int} (hn : 0 < n) :
    a / n = tdiv a n - (if a < 0 ∧ a % n ≠ 0 then 1 else 0) := by
  have rounded : a < 0 ∧ a % n ≠ 0 ↔ ¬ (0 ≤ a ∨ n ∣ a) := by rw [not_or, not_le, Int.dvd_iff_emod_eq_zero]
  simp only [rounded, ite_not]
  rw [tdiv_eq_tdiv, Int.tdiv_eq_ediv, Int.sign_eq_one_of_pos hn, add_sub_cancel_right]

/-- The bias `n - 1` turns the floor of a negative dividend into the truncating quotient. -/
theorem add_bias_ediv {a n : Int} (hn : 0 < n) (ha : a < 0) : (a + (n - 1)) / n = tdiv a n := by
  obtain ⟨hle, hlt⟩ := (tdiv_spec a hn).2 ha.le
  rw [Int.ediv_eq_iff_of_pos hn]
  constructor <;> linarith

theorem shiftRight_eq_ediv (a : Int) (k : Nat) : a >>> k = a / 2 ^ k := by
  rw [Int.shiftRight_eq_div_pow, Nat.cast_pow, Nat.cast_ofNat]

theorem biasedShift_eq_tdiv (a : Int) (k : Nat) : biasedShift a k = tdiv a (2 ^ k) := by
  unfold biasedShift
  rw [shiftRight_eq_ediv]
  obtain ha | ha := lt_or_ge a 0
  · rw [if_pos ha, add_bias_ediv (by positivity) ha]
  · rw [if_neg (by omega), add_zero, tdiv_of_nonneg ha]

/-- Settles O14: the shift is the floor, and the bias makes up for what the floor is below the truncating quotient. -/
theorem biasedShiftIsTdiv : Obligations.BiasedShiftIsTdiv := by
  unfold Obligations.BiasedShiftIsTdiv
  intro a k _
  exact ⟨shiftRight_eq_ediv a k, (biasedShift_eq_tdiv a k).symm, ediv_eq_tdiv_sub a (by positivity)⟩

/-! ### The constant products (R93) -/

/-- A field with room for `k` more bits holds the shifted coefficient whole. -/
theorem uint_setWidth_shiftLeft (c : Coef) {n k : Nat} (h : 16 + k ≤ n) :
    uint (c.setWidth n <<< k) = uint c * 2 ^ k := by
  have fits : c.toNat * 2 ^ k < 2 ^ n :=
    calc c.toNat * 2 ^ k < 2 ^ 16 * 2 ^ k := Nat.mul_lt_mul_of_pos_right c.isLt (by positivity)
      _ = 2 ^ (16 + k) := (pow_add 2 16 k).symm
      _ ≤ 2 ^ n := Nat.pow_le_pow_right (by decide) h
  unfold uint
  rw [BitVec.toNat_shiftLeft, Nat.shiftLeft_eq, BitVec.toNat_setWidth_of_le (by omega), Nat.mod_eq_of_lt fits]
  push_cast
  rfl

/-- Settles O15: each field has room for the 16 bits of the coefficient and the bits it is shifted by. -/
theorem constantProductsAreShifts : Obligations.ConstantProductsAreShifts := by
  unfold Obligations.ConstantProductsAreShifts
  intro c
  exact ⟨uint_setWidth_shiftLeft c (by decide), uint_setWidth_shiftLeft c (by decide),
    uint_setWidth_shiftLeft c (by decide)⟩

/-! ### The range of every intermediate (R95) -/

/-- The product of a coefficient and a constant. -/
theorem coef_mul_range (c : Coef) {n : Int} (hn : 0 ≤ n) : 0 ≤ uint c * n ∧ uint c * n ≤ 65535 * n :=
  ⟨mul_nonneg (uint_nonneg c) hn, mul_le_mul_of_nonneg_right (uint_coef_le c) hn⟩

/-- The product `dT × C6` for a `dT` that CTEMP can produce. -/
theorem delta_mul_range (c6 : Coef) {dT : Int} (hlo : -16776960 ≤ dT) (hhi : dT ≤ 16777215) :
    -1099478073600 ≤ dT * uint c6 ∧ dT * uint c6 ≤ 1099494785025 := by
  rw [mul_comm]
  exact mul_range (uint_nonneg c6) (uint_coef_le c6) hlo hhi (by decide) (by decide)

/-- Settles O16: the product has its extremes at the ends of `dT` and `C6`, and division keeps them. -/
theorem temperatureIntermediateRanges : Obligations.TemperatureIntermediateRanges := by
  unfold Obligations.TemperatureIntermediateRanges
  intro c5 c6 d2
  obtain ⟨hlo, hhi⟩ := tempDelta_range c5 d2
  have hprod := delta_mul_range c6 hlo hhi
  exact ⟨coef_mul_range c5 (by decide), ⟨hlo, hhi⟩, hprod, tdiv_range (by decide) hprod.1 hprod.2,
    temperature_range c6 hlo hhi⟩

/-- The least `OFF` for `dT` from `lo` up. -/
def offMin (lo : Int) : Int := tdiv (65535 * lo) 128

/-- The greatest `OFF` for `dT` up to `hi`. -/
def offMax (hi : Int) : Int := 4294901760 + tdiv (65535 * hi) 128

/-- The least `SENS` for `dT` from `lo` up. -/
def sensMin (lo : Int) : Int := tdiv (65535 * lo) 256

/-- The greatest `SENS` for `dT` up to `hi`. -/
def sensMax (hi : Int) : Int := 2147450880 + tdiv (65535 * hi) 256

/-- The least `q` for `dT` from `lo` up. -/
def quotMin (lo : Int) : Int := tdiv (16777215 * sensMin lo) 2097152

/-- The greatest `q` for `dT` up to `hi`. -/
def quotMax (hi : Int) : Int := tdiv (16777215 * sensMax hi) 2097152

theorem sensMin_nonpos {lo : Int} (h : lo ≤ 0) : sensMin lo ≤ 0 :=
  tdiv_mono (n := 256) (b := 0) (by decide) (by omega)

theorem sensMax_nonneg {hi : Int} (h : 0 ≤ hi) : 0 ≤ sensMax hi := by
  have : 0 ≤ tdiv (65535 * hi) 256 := tdiv_mono (n := 256) (a := 0) (by decide) (by omega)
  unfold sensMax
  omega

/-- The range of `D1 × SENS` for a `dT` in an interval around zero. -/
theorem sample_mul_sens_range (cal : Coefs) (d1 : Sample) {dT lo hi : Int} (hlo : lo ≤ dT) (hhi : dT ≤ hi) (h0 : lo ≤ 0)
    (h1 : 0 ≤ hi) :
    16777215 * sensMin lo ≤ uint d1 * pressSens cal.c1 cal.c3 dT
      ∧ uint d1 * pressSens cal.c1 cal.c3 dT ≤ 16777215 * sensMax hi := by
  obtain ⟨hsens0, hsens1⟩ := pressSens_range cal.c1 cal.c3 hlo hhi h0 h1
  exact mul_range (uint_nonneg d1) (uint_sample_le d1) hsens0 hsens1 (sensMin_nonpos h0) (sensMax_nonneg h1)

/-- The range of `num = q - OFF` for a `dT` in an interval around zero. -/
theorem quot_sub_off_range (cal : Coefs) (d1 : Sample) {dT lo hi : Int} (hlo : lo ≤ dT) (hhi : dT ≤ hi) (h0 : lo ≤ 0)
    (h1 : 0 ≤ hi) :
    quotMin lo - offMax hi ≤ pressQuot d1 (pressSens cal.c1 cal.c3 dT) - pressOff cal.c2 cal.c4 dT
      ∧ pressQuot d1 (pressSens cal.c1 cal.c3 dT) - pressOff cal.c2 cal.c4 dT ≤ quotMax hi - offMin lo := by
  obtain ⟨hoff0, hoff1⟩ := pressOff_range cal.c2 cal.c4 hlo hhi h0 h1
  obtain ⟨hscaled0, hscaled1⟩ := sample_mul_sens_range cal d1 hlo hhi h0 h1
  obtain ⟨hquot0, hquot1⟩ := tdiv_range (n := 2097152) (by decide) hscaled0 hscaled1
  exact ⟨Int.sub_le_sub hquot0 hoff1, Int.sub_le_sub hquot1 hoff0⟩

/-- The rows of CPRES for a `dT` in an interval around zero: each range follows from those of the rows it
is built of. -/
theorem pressure_intermediate_ranges (cal : Coefs) (d1 : Sample) {dT lo hi : Int} (hlo : lo ≤ dT) (hhi : dT ≤ hi)
    (h0 : lo ≤ 0) (h1 : 0 ≤ hi) :
    (65535 * lo ≤ uint cal.c4 * dT ∧ uint cal.c4 * dT ≤ 65535 * hi)
    ∧ (65535 * lo ≤ uint cal.c3 * dT ∧ uint cal.c3 * dT ≤ 65535 * hi)
    ∧ (tdiv (65535 * lo) 128 ≤ tdiv (uint cal.c4 * dT) 128 ∧ tdiv (uint cal.c4 * dT) 128 ≤ tdiv (65535 * hi) 128)
    ∧ (0 ≤ uint cal.c2 * 65536 ∧ uint cal.c2 * 65536 ≤ 4294901760)
    ∧ (offMin lo ≤ pressOff cal.c2 cal.c4 dT ∧ pressOff cal.c2 cal.c4 dT ≤ offMax hi)
    ∧ (tdiv (65535 * lo) 256 ≤ tdiv (uint cal.c3 * dT) 256 ∧ tdiv (uint cal.c3 * dT) 256 ≤ tdiv (65535 * hi) 256)
    ∧ (0 ≤ uint cal.c1 * 32768 ∧ uint cal.c1 * 32768 ≤ 2147450880)
    ∧ (sensMin lo ≤ pressSens cal.c1 cal.c3 dT ∧ pressSens cal.c1 cal.c3 dT ≤ sensMax hi)
    ∧ (16777215 * sensMin lo ≤ uint d1 * pressSens cal.c1 cal.c3 dT
        ∧ uint d1 * pressSens cal.c1 cal.c3 dT ≤ 16777215 * sensMax hi)
    ∧ (quotMin lo ≤ pressQuot d1 (pressSens cal.c1 cal.c3 dT) ∧ pressQuot d1 (pressSens cal.c1 cal.c3 dT) ≤ quotMax hi)
    ∧ (quotMin lo - offMax hi ≤ pressQuot d1 (pressSens cal.c1 cal.c3 dT) - pressOff cal.c2 cal.c4 dT
        ∧ pressQuot d1 (pressSens cal.c1 cal.c3 dT) - pressOff cal.c2 cal.c4 dT ≤ quotMax hi - offMin lo)
    ∧ (tdiv (quotMin lo - offMax hi) 32768 ≤ pressure cal d1 dT
        ∧ pressure cal d1 dT ≤ tdiv (quotMax hi - offMin lo) 32768) := by
  have hprod (c : Coef) := mul_range (uint_nonneg c) (uint_coef_le c) hlo hhi h0 h1
  have hscaled := sample_mul_sens_range cal d1 hlo hhi h0 h1
  have hnum := quot_sub_off_range cal d1 hlo hhi h0 h1
  exact ⟨hprod _, hprod _, tdiv_range (by decide) (hprod _).1 (hprod _).2, coef_mul_range _ (by decide),
    pressOff_range cal.c2 cal.c4 hlo hhi h0 h1, tdiv_range (by decide) (hprod _).1 (hprod _).2,
    coef_mul_range _ (by decide), pressSens_range cal.c1 cal.c3 hlo hhi h0 h1, hscaled,
    tdiv_range (by decide) hscaled.1 hscaled.2, hnum, tdiv_range (by decide) hnum.1 hnum.2⟩

/-- Settles O17: the rows at the ends of what CTEMP can produce. -/
theorem pressureRangesReachableDelta : Obligations.PressureRangesReachableDelta := by
  unfold Obligations.PressureRangesReachableDelta
  intro cal d1 dT hlo hhi
  exact pressure_intermediate_ranges (lo := -16776960) (hi := 16777215) cal d1 hlo hhi (by decide) (by decide)

/-- Settles O18: the rows at the ends of the 32-bit range. -/
theorem pressureRangesAnyDelta : Obligations.PressureRangesAnyDelta := by
  unfold Obligations.PressureRangesAnyDelta
  intro cal d1 dt
  obtain ⟨hlo, hhi⟩ := sint32_range dt
  exact pressure_intermediate_ranges (lo := -2147483648) (hi := 2147483647) cal d1 hlo hhi (by decide) (by decide)

/-! ### Fixed-width datapaths (R96)

`BitVec.ofInt` keeps sums and products whatever the width, so that only dividends and the result have to fit. -/

/-- `v` is a number of `w`-bit two's complement. -/
def Fits (w : Nat) (v : Int) : Prop := -2 ^ (w - 1) ≤ v ∧ v < 2 ^ (w - 1)

theorem Fits.mono {m w : Nat} {v : Int} (hmw : m ≤ w) (h : Fits m v) : Fits w v := by
  obtain ⟨hlo, hhi⟩ := h
  have : (2 : Int) ^ (m - 1) ≤ 2 ^ (w - 1) := pow_le_pow_right₀ (by decide) (by omega)
  constructor <;> omega

theorem fits_of_64 {w : Nat} {v : Int} (hw : 64 ≤ w) (hlo : -9223372036854775808 ≤ v) (hhi : v ≤ 9223372036854775807) :
    Fits w v := by
  have : Fits 64 v := ⟨hlo, Int.lt_add_one_of_le hhi⟩
  exact this.mono hw

theorem Fits.toInt_ofInt {w : Nat} {v : Int} (hw : 0 < w) (h : Fits w v) : (BitVec.ofInt w v).toInt = v :=
  BitVec.toInt_ofInt_eq_self hw h.1 h.2

/-- Signed division of a number that fits, by a divisor of the engine's size, is truncating division. -/
theorem ofInt_tdiv {w : Nat} {a n : Int} (hw : 64 ≤ w) (ha : Fits w a) (hn : 0 < n ∧ n ≤ 8388608) :
    BitVec.ofInt w (tdiv a n) = (BitVec.ofInt w a).sdiv (BitVec.ofInt w n) := by
  have hn : Fits w n := fits_of_64 hw (by omega) (by omega)
  apply BitVec.eq_of_toInt_eq
  rw [BitVec.toInt_sdiv, ha.toInt_ofInt (by omega), hn.toInt_ofInt (by omega), BitVec.toInt_ofInt, tdiv_eq_tdiv]

theorem setWidth_eq_ofInt_uint {n : Nat} (w : Nat) (b : BitVec n) : b.setWidth w = BitVec.ofInt w (uint b) := by
  rw [uint, BitVec.ofInt_natCast, BitVec.ofNat_toNat]

theorem signExtend_eq_ofInt_sint32 (w : Nat) (dt : Word32) : dt.signExtend w = BitVec.ofInt w (sint32 dt) := by
  rw [sint32_eq_toInt]
  rfl

theorem ofInt_sub (w : Nat) (x y : Int) : BitVec.ofInt w (x - y) = BitVec.ofInt w x - BitVec.ofInt w y := by
  rw [eq_sub_iff_add_eq, ← BitVec.ofInt_add, sub_add_cancel]

/-- CTEMP in a width that holds its one dividend. -/
theorem temperatureAt_eq_ofInt {w : Nat} (hw : 64 ≤ w) (c5 c6 : Coef) (d2 : Sample) :
    temperatureAt w c5 c6 d2 = BitVec.ofInt w (temperature c6 (tempDelta c5 d2)) := by
  obtain ⟨hlo, hhi⟩ := tempDelta_range c5 d2
  obtain ⟨hprod0, hprod1⟩ := delta_mul_range c6 hlo hhi
  have hprod : Fits w (tempDelta c5 d2 * uint c6) := fits_of_64 hw (by omega) (by omega)
  rw [temperature, BitVec.ofInt_add, ofInt_tdiv hw hprod (by decide), BitVec.ofInt_mul, tempDelta, ofInt_sub,
    BitVec.ofInt_mul, ← setWidth_eq_ofInt_uint, ← setWidth_eq_ofInt_uint, ← setWidth_eq_ofInt_uint]
  simp only [BitVec.ofInt_ofNat, temperatureAt]

/-- The shape of `OFF` and of `SENS`, `b × m + tdiv(c × dT, n)`: its dividend fits 64 bits for every `DT`. -/
theorem ofInt_coef_add_tdiv {w : Nat} (hw : 64 ≤ w) (b c : Coef) (dt : Word32) (m : Int) {n : Int}
    (hn : 0 < n ∧ n ≤ 8388608) :
    BitVec.ofInt w (uint b * m + tdiv (uint c * sint32 dt) n)
      = b.setWidth w * BitVec.ofInt w m + (c.setWidth w * dt.signExtend w).sdiv (BitVec.ofInt w n) := by
  obtain ⟨hlo, hhi⟩ := sint32_range dt
  obtain ⟨hprod0, hprod1⟩ := mul_range (uint_nonneg c) (uint_coef_le c) hlo hhi (by decide) (by decide)
  have hprod : Fits w (uint c * sint32 dt) := fits_of_64 hw (by omega) (by omega)
  rw [BitVec.ofInt_add, ofInt_tdiv hw hprod hn, BitVec.ofInt_mul, BitVec.ofInt_mul, ← setWidth_eq_ofInt_uint,
    ← setWidth_eq_ofInt_uint, ← signExtend_eq_ofInt_sint32]

/-- CPRES in a width from 64 bits that holds `D1 × SENS`, the one dividend that 64 bits may not hold. -/
theorem pressureAt_eq_ofInt {w : Nat} (hw : 64 ≤ w) (cal : Coefs) (d1 : Sample) (dt : Word32)
    (hscaled : Fits w (uint d1 * pressSens cal.c1 cal.c3 (sint32 dt))) :
    pressureAt w cal d1 dt = BitVec.ofInt w (pressure cal d1 (sint32 dt)) := by
  obtain ⟨hlo, hhi⟩ := sint32_range dt
  obtain ⟨hnum0, hnum1⟩ := quot_sub_off_range cal d1 hlo hhi (by decide) (by decide)
  have hnum : Fits w (pressQuot d1 (pressSens cal.c1 cal.c3 (sint32 dt)) - pressOff cal.c2 cal.c4 (sint32 dt)) :=
    fits_of_64 hw (le_trans (by decide) hnum0) (le_trans hnum1 (by decide))
  have hoff := ofInt_coef_add_tdiv hw cal.c2 cal.c4 dt Config.c2Scale (n := Config.offDiv) (by decide)
  have hsens := ofInt_coef_add_tdiv hw cal.c1 cal.c3 dt Config.c1Scale (n := Config.sensDiv) (by decide)
  rw [pressure, ofInt_tdiv hw hnum (by decide), ofInt_sub, pressQuot, ofInt_tdiv hw hscaled (by decide),
    BitVec.ofInt_mul, pressSens, hsens, pressOff, hoff, ← setWidth_eq_ofInt_uint]
  simp only [BitVec.ofInt_ofNat, pressureAt]

/-- From 64 bits up CPRES is exact when `D1 × SENS` fits. -/
theorem pressureAt_toInt_of_fits {w : Nat} (hw : 64 ≤ w) (cal : Coefs) (d1 : Sample) (dt : Word32)
    (hscaled : Fits w (uint d1 * pressSens cal.c1 cal.c3 (sint32 dt))) :
    (pressureAt w cal d1 dt).toInt = pressure cal d1 (sint32 dt) := by
  obtain ⟨hlo, hhi⟩ := sint32_range dt
  obtain ⟨hp0, hp1⟩ := pressure_range cal d1 hlo hhi
  rw [pressureAt_eq_ofInt hw cal d1 dt hscaled, (fits_of_64 hw (by omega) (by omega)).toInt_ofInt (by omega)]

/-- Settles O19: R95's ranges say which width holds `D1 × SENS`; the fourth clause is 95_test_vectors.md V2.13. -/
theorem sixtyFourBitDatapath : Obligations.SixtyFourBitDatapath := by
  unfold Obligations.SixtyFourBitDatapath
  refine ⟨fun c5 c6 d2 => ?temp, fun cal d1 dt hlo hhi => ?reachable, fun w cal d1 dt hw => ?wide, ?narrow⟩
  case temp =>
    obtain ⟨hlo, hhi⟩ := tempDelta_range c5 d2
    obtain ⟨ht0, ht1⟩ := temperature_range c6 hlo hhi
    rw [temperatureAt_eq_ofInt le_rfl, (fits_of_64 le_rfl (by omega) (by omega)).toInt_ofInt (by decide)]
  case reachable =>
    obtain ⟨hscaled0, hscaled1⟩ := sample_mul_sens_range cal d1 hlo hhi (by decide) (by decide)
    exact pressureAt_toInt_of_fits le_rfl cal d1 dt
      (fits_of_64 le_rfl (le_trans (by decide) hscaled0) (le_trans hscaled1 (by decide)))
  case wide =>
    obtain ⟨hlo, hhi⟩ := sint32_range dt
    obtain ⟨hscaled0, hscaled1⟩ := sample_mul_sens_range cal d1 hlo hhi (by decide) (by decide)
    have h65 : Fits 65 (uint d1 * pressSens cal.c1 cal.c3 (sint32 dt)) :=
      ⟨le_trans (by decide) hscaled0, lt_of_le_of_lt hscaled1 (by decide)⟩
    exact pressureAt_toInt_of_fits (by omega) cal d1 dt (h65.mono hw)
  case narrow => exact ⟨⟨65535#16, 0#16, 65535#16, 0#16, 0#16, 0#16⟩, 16777215#24, 0x7FFFFFFF#32, by decide⟩

/-! ### Floor division (R100) -/

/-- The two roundings agree where the dividend is non-negative or exactly divisible. -/
theorem tdiv_eq_ediv_of_exact {a n : Int} (h : 0 ≤ a ∨ a % n = 0) (hn : 0 < n) : tdiv a n = a / n := by
  rw [ediv_eq_tdiv_sub a hn, if_neg (by omega), sub_zero]

/-- The floor is the truncating quotient or one below it. -/
theorem ediv_le_tdiv_le (a : Int) {n : Int} (hn : 0 < n) : a / n ≤ tdiv a n ∧ tdiv a n ≤ a / n + 1 := by
  rw [ediv_eq_tdiv_sub a hn]
  split <;> omega

theorem temperature_eq_floor_of_exact {c6 : Coef} {dT : Int} (h : 0 ≤ dT * uint c6 ∨ dT * uint c6 % 8388608 = 0) :
    temperature c6 dT = floorTemperature c6 dT :=
  congrArg (2000 + ·) (tdiv_eq_ediv_of_exact h (by decide))

theorem floorTemperature_bounds (c6 : Coef) (dT : Int) :
    floorTemperature c6 dT ≤ temperature c6 dT ∧ temperature c6 dT ≤ floorTemperature c6 dT + 1 := by
  have := ediv_le_tdiv_le (dT * uint c6) (n := 8388608) (by decide)
  unfold floorTemperature temperature Config.tOffset Config.tScale
  omega

theorem pressure_eq_floor_of_exact {cal : Coefs} {d1 : Sample} {dT : Int}
    (hoff : 0 ≤ uint cal.c4 * dT ∨ uint cal.c4 * dT % 128 = 0)
    (hsens : 0 ≤ uint cal.c3 * dT ∨ uint cal.c3 * dT % 256 = 0)
    (hquot : 0 ≤ uint d1 * pressSens cal.c1 cal.c3 dT ∨ uint d1 * pressSens cal.c1 cal.c3 dT % 2097152 = 0)
    (hnum : 0 ≤ pressQuot d1 (pressSens cal.c1 cal.c3 dT) - pressOff cal.c2 cal.c4 dT
      ∨ (pressQuot d1 (pressSens cal.c1 cal.c3 dT) - pressOff cal.c2 cal.c4 dT) % 32768 = 0) :
    pressure cal d1 dT = floorPressure cal d1 dT := by
  rw [pressure, tdiv_eq_ediv_of_exact hnum (by decide), pressQuot, tdiv_eq_ediv_of_exact hquot (by decide), pressSens,
    tdiv_eq_ediv_of_exact hsens (by decide), pressOff, tdiv_eq_ediv_of_exact hoff (by decide)]
  rfl

/-- Settles O20: `T` has one division, which rounds at most one lower; the last clause is 95_test_vectors.md V2.20. -/
theorem floorDivisionDiffers : Obligations.FloorDivisionDiffers := by
  unfold Obligations.FloorDivisionDiffers
  refine ⟨fun c5 c6 d2 => ?temp, fun cal d1 dT => pressure_eq_floor_of_exact, ?tempByOne, ?pressByTwo⟩
  case temp =>
    obtain ⟨hlo, hhi⟩ := floorTemperature_bounds c6 (tempDelta c5 d2)
    exact ⟨hlo, hhi, temperature_eq_floor_of_exact⟩
  case tempByOne => exact ⟨1#16, 1#16, 0#24, by decide⟩
  case pressByTwo =>
    exact ⟨⟨0#16, 65535#16, 65535#16, 65535#16, 0#16, 0#16⟩, 16777215#24, sint32 0xFF72121C#32, by decide⟩

/-! ### The order of evaluation (R99) -/

/-- Settles O31: the frames are those of the fixture, which each operation answers from its formulas. -/
theorem fixtureResponses : Obligations.FixtureResponses := by
  unfold Obligations.FixtureResponses
  intro s
  obtain ⟨hctemp, hcpres, -⟩ := writtenFramesDecode
  refine ⟨?ctemp, ?cpres, by decide⟩
  case ctemp =>
    have answer : tempResp (temperature 28312#16 (tempDelta 33464#16 8569150#24)) (tempDelta 33464#16 8569150#24)
        = 0x01010000000007D70000093E00000000#128 := by decide
    rw [step_present, ← answer]
    exact execFrame_of_request hctemp s
  case cpres =>
    have answer : pressResp (pressure ⟨40127#16, 36924#16, 23317#16, 23282#16, 33464#16, 28312#16⟩ 9085466#24
        (sint32 2366#32)) = 0x010200000000000000000000000186A9#128 := by decide
    rw [step_present, ← answer]
    exact execFrame_of_request hcpres s

end Sys2Proof.Machine

/-! Proofs for 41_temperature.md: what CTEMP answers (R110), its corner cases, its ranges and what it is monotone in
(R111), results outside the nominal range (R112), and the fields it does not read (R113). -/

namespace Sys2Proof.Machine

open Sys2Proof.Safety

/-! ### What CTEMP answers (R110) -/

/-- The response of a calibrated CTEMP: `OK`, `TV` alone, and the exact results, which fit their fields (R111). -/
theorem tempResp_holds_results (c5 c6 : Coef) (d2 : Sample) {r : RespFrame}
    (hr : r = tempResp (temperature c6 (tempDelta c5 d2)) (tempDelta c5 d2)) :
    respStatus r = 0x01#8 ∧ respTV r = true ∧ respPV r = false ∧ respVZ r = 0#6 ∧ respRZ r = 0#16
      ∧ (respDT r).toInt = tempDelta c5 d2 ∧ (respT r).toInt = temperature c6 (tempDelta c5 d2) ∧ respP r = 0#32 := by
  obtain ⟨hd0, hd1⟩ := tempDelta_range c5 d2
  obtain ⟨ht0, ht1⟩ := temperature_range c6 hd0 hd1
  obtain ⟨hstatus, htv, hpv⟩ := tempResp_status_flags (temperature c6 (tempDelta c5 d2)) (tempDelta c5 d2)
  subst hr
  refine ⟨hstatus, htv, hpv, respVZ_mkResp .., respRZ_mkResp .., ?delta, ?temp, respP_mkResp ..⟩
  case delta => rw [tempResp, respDT_mkResp, toS32_toInt (by omega) (by omega)]
  case temp => rw [tempResp, respT_mkResp, toS32_toInt (by omega) (by omega)]

/-- The formula of `T` over the operands, with the library's truncating division. -/
theorem temperature_tempDelta_eq_tdiv (c5 c6 : Coef) (d2 : Sample) :
    temperature c6 (tempDelta c5 d2) = 2000 + Int.tdiv ((uint d2 - uint c5 * 256) * uint c6) 8388608 := by
  rw [temperature, tdiv_eq_tdiv, tempDelta]

/-- Settles O21: the response is the one-page function of the frame, which has one case for each of the three. -/
theorem ctempFrameResponse : Obligations.CtempFrameResponse := by
  unfold Obligations.CtempFrameResponse
  intro f s hop
  refine ⟨_, responseIsFunctionOfFrame f s, fun h => ?illegal, fun h hcal => ?notCalibrated,
    fun h hcal => ?calibrated⟩
  case illegal =>
    rw [respond_of_not_legal h]
    decide
  case notCalibrated =>
    rw [respond_of_not_calibrated h hcal]
    decide
  case calibrated =>
    have answer := respond_of_ctemp h hcal hop
    rw [temp_eq, delta_eq] at answer
    obtain ⟨hstatus, htv, hpv, hvz, hrz, hdt, ht, hp⟩ := tempResp_holds_results _ _ _ answer
    exact ⟨hstatus, htv, hpv, hvz, hrz, hdt, ht.trans (temperature_tempDelta_eq_tdiv ..), hp⟩

/-- Settles O22: the calibrated meaning writes the response that holds the results, and only `RESP`. -/
theorem ctempCompletes : Obligations.CtempCompletes := by
  unfold Obligations.CtempCompletes
  intro cal d2 s
  obtain ⟨hstatus, htv, hpv, hvz, hrz, hdt, ht, hp⟩ := tempResp_holds_results cal.c5 cal.c6 d2 rfl
  exact ⟨_, exec_ctemp_calibrated cal d2 s, rfl, rfl, hstatus, htv, hpv, hvz, hrz, hdt,
    ht.trans (temperature_tempDelta_eq_tdiv ..), hp⟩

/-! ### The corner cases (R110) -/

/-- Truncation gives 0 exactly for the dividends smaller in size than the divisor. -/
theorem tdiv_eq_zero_iff {a n : Int} (hn : 0 < n) : tdiv a n = 0 ↔ -n < a ∧ a < n := by
  constructor
  · intro h
    obtain ⟨hnonneg, hnonpos⟩ := tdiv_spec a hn
    rw [h] at hnonneg hnonpos
    omega
  · rintro ⟨hlo, hhi⟩
    obtain ha | ha := lt_or_ge a 0
    · rw [tdiv_of_neg ha, Int.ediv_eq_zero_of_lt (by omega) (by omega), neg_zero]
    · rw [tdiv_of_nonneg ha, Int.ediv_eq_zero_of_lt ha hhi]

theorem temperature_eq_offset_iff (c6 : Coef) (dT : Int) :
    temperature c6 dT = 2000 ↔ -8388608 < dT * uint c6 ∧ dT * uint c6 < 8388608 := by
  rw [← tdiv_eq_zero_iff (by decide)]
  exact add_eq_left

/-- `T` for a product `dT × C6` that is known. -/
theorem temperature_of_product {c6 : Coef} {dT prod : Int} (h : dT * uint c6 = prod) :
    temperature c6 dT = 2000 + tdiv prod 8388608 := by
  rw [temperature, h]

/-- Settles O23: `T` depends on the product alone, and is 2000 where its quotient is 0. -/
theorem ctempCornerCases : Obligations.CtempCornerCases := by
  unfold Obligations.CtempCornerCases
  refine ⟨fun c5 c6 d2 => ⟨fun hd2 => ?noDelta, fun hc6 => ?noSlope, temperature_eq_offset_iff c6 _,
    temperature_of_product, temperature_of_product, temperature_of_product⟩, by decide, by decide⟩
  case noDelta =>
    have hdelta : tempDelta c5 d2 = 0 := sub_eq_zero.mpr hd2
    exact temperature_of_product (prod := 0) (by rw [hdelta, zero_mul])
  case noSlope => exact temperature_of_product (prod := 0) (by rw [hc6, mul_zero])

/-! ### Ranges and monotonicity (R111) -/

theorem tempDelta_mono_sample (c5 : Coef) {d2 d2' : Sample} (h : uint d2 ≤ uint d2') :
    tempDelta c5 d2 ≤ tempDelta c5 d2' := Int.sub_le_sub_right h _

theorem tempDelta_antitone_coef {c5 c5' : Coef} (d2 : Sample) (h : uint c5 ≤ uint c5') :
    tempDelta c5' d2 ≤ tempDelta c5 d2 :=
  Int.sub_le_sub_left (mul_le_mul_of_nonneg_right h (by decide)) _

theorem temperature_mono (c6 : Coef) {dT dT' : Int} (h : dT ≤ dT') : temperature c6 dT ≤ temperature c6 dT' := by
  have hprod : dT * uint c6 ≤ dT' * uint c6 := mul_le_mul_of_nonneg_right h (uint_nonneg c6)
  exact Int.add_le_add_left (tdiv_mono (by decide) hprod) _

/-- Settles O24: the ranges are R95's, and each step of the formula is monotone. -/
theorem temperatureRangesAndMonotone : Obligations.TemperatureRangesAndMonotone := by
  unfold Obligations.TemperatureRangesAndMonotone
  refine ⟨fun c5 c6 d2 => ?ranges, fun c5 _ _ => tempDelta_mono_sample c5,
    fun _ _ d2 => tempDelta_antitone_coef d2, fun c6 _ _ => temperature_mono c6⟩
  case ranges =>
    obtain ⟨hd0, hd1⟩ := tempDelta_range c5 d2
    obtain ⟨hprod0, hprod1⟩ := delta_mul_range c6 hd0 hd1
    exact ⟨hd0, hd1, hprod0, hprod1, temperature_range c6 hd0 hd1⟩

/-! ### Results outside the nominal ranges (R112, 42_pressure.md R123) -/

/-- A calibrated CTEMP is answered `OK` with its `T`, whatever that is. -/
theorem exec_ctemp_ok {cal : Coefs} {d2 : Sample} {temp : Int} (s : State)
    (htemp : temperature cal.c6 (tempDelta cal.c5 d2) = temp) :
    ∃ t, exec (.ctemp true cal d2) s = .next t ∧ respStatus t.resp = 0x01#8 ∧ (respT t.resp).toInt = temp := by
  obtain ⟨hstatus, -, -, -, -, -, ht, -⟩ := tempResp_holds_results cal.c5 cal.c6 d2 rfl
  exact ⟨_, exec_ctemp_calibrated cal d2 s, hstatus, ht.trans htemp⟩

/-- The `P` field of a CPRES response denotes the pressure: it fits the field for every 32-bit `dT`. -/
theorem respP_pressResp_toInt (cal : Coefs) (d1 : Sample) (dt : Word32) :
    (respP (pressResp (pressure cal d1 (sint32 dt)))).toInt = pressure cal d1 (sint32 dt) := by
  obtain ⟨hdt0, hdt1⟩ := sint32_range dt
  obtain ⟨hp0, hp1⟩ := pressure_range cal d1 hdt0 hdt1
  rw [pressResp, respP_mkResp, toS32_toInt (by omega) (by omega)]

/-- A calibrated CPRES is answered `OK` with its `P`, whatever that is. -/
theorem exec_cpres_ok {cal : Coefs} {d1 : Sample} {dt : Word32} {press : Int} (s : State)
    (hpress : pressure cal d1 (sint32 dt) = press) :
    ∃ t, exec (.cpres true cal d1 dt) s = .next t ∧ respStatus t.resp = 0x01#8 ∧ (respP t.resp).toInt = press :=
  ⟨_, exec_cpres_calibrated cal d1 dt s, (pressResp_status_flags _).1, (respP_pressResp_toInt cal d1 dt).trans hpress⟩

/-- Settles O33: each operation answers its formula's value, here evaluated at 95_test_vectors.md V3.15, V3.11, V2.20
and V2.13. -/
theorem resultsAreNotClamped : Obligations.ResultsAreNotClamped := by
  unfold Obligations.ResultsAreNotClamped
  intro s
  exact ⟨exec_ctemp_ok s (by decide), exec_ctemp_ok s (by decide), exec_cpres_ok s (by decide),
    exec_cpres_ok s (by decide)⟩

/-! ### The fields CTEMP does not read (R113) -/

/-- Frames that agree under a mask agree under every mask within it. -/
theorem and_eq_and_of_submask {f g m m' : Frame} (hsub : m' = m &&& m') (h : f &&& m = g &&& m) :
    f &&& m' = g &&& m' := by
  rw [hsub, ← BitVec.and_assoc, ← BitVec.and_assoc, h]

/-- Frames that agree under a mask agree in every field that the mask covers. -/
theorem field_eq_of_mask {f g m : Frame} (h : f &&& m = g &&& m) {lo n : Nat}
    (hm : m.extractLsb' lo n = BitVec.allOnes n) : Reference.field f lo n = Reference.field g lo n := by
  have hslice := congrArg (BitVec.extractLsb' lo n) h
  rw [BitVec.extractLsb'_and, BitVec.extractLsb'_and, hm, BitVec.and_allOnes, BitVec.and_allOnes] at hslice
  rw [← uint_extractLsb', ← uint_extractLsb', hslice]

/-- The mask of R113 clears C1..C4 alone: under it the rows, `CALV`, `OP` and the operands of `T` are what they were. -/
theorem respond_eq_of_ctemp_mask {f g : Frame} (hop : f.extractLsb' 168 8 = 0x01#8)
    (h : f &&& 0xFFFF0000000000000000FFFFFFFFFFFFFFFFFFFFFFFF#176
      = g &&& 0xFFFF0000000000000000FFFFFFFFFFFFFFFFFFFFFFFF#176) :
    Reference.respond f = Reference.respond g := by
  have hctemp : f &&& ctempRow.mask = g &&& ctempRow.mask := and_eq_and_of_submask (by decide) h
  have hcpres : f &&& cpresRow.mask = g &&& cpresRow.mask := and_eq_and_of_submask (by decide) h
  have hcalv : Reference.field f 160 1 = Reference.field g 160 1 := field_eq_of_mask h (by decide)
  have hcode : Reference.field f 168 8 = Reference.field g 168 8 := field_eq_of_mask h (by decide)
  have hone : Reference.field g 168 8 = 1 := by
    rw [← hcode, ← uint_extractLsb', hop]
    rfl
  have hc5 : Reference.field f 80 16 = Reference.field g 80 16 := field_eq_of_mask h (by decide)
  have hc6 : Reference.field f 64 16 = Reference.field g 64 16 := field_eq_of_mask h (by decide)
  have hd2 : Reference.field f 32 24 = Reference.field g 32 24 := field_eq_of_mask h (by decide)
  have hdelta : Reference.delta f = Reference.delta g := by simp only [Reference.delta, hd2, hc5]
  have htemp : Reference.temp f = Reference.temp g := by simp only [Reference.temp, hdelta, hc6]
  simp only [Reference.respond, hctemp, hcpres, hcalv, hcode, hone, hdelta, htemp, if_true]

/-- Settles O25: the response is the one-page function of the frame, which the mask does not change. -/
theorem ctempIgnoresC1ToC4 : Obligations.CtempIgnoresC1ToC4 := by
  unfold Obligations.CtempIgnoresC1ToC4
  intro f g s s' hop h
  refine ⟨Reference.respond f, responseIsFunctionOfFrame f s, ?_⟩
  rw [respond_eq_of_ctemp_mask hop h]
  exact responseIsFunctionOfFrame g s'

end Sys2Proof.Machine

/-! Proofs for 42_pressure.md: what CPRES answers (R120, R124), its corner cases and extremes, its ranges and what its
intermediates are monotone in (R122), the fields it does not read (R125), and runs that keep the ordering constraint
(R121). -/

namespace Sys2Proof.Machine

open Sys2Proof.Safety

/-! ### What CPRES answers (R120, R124) -/

/-- The response of a calibrated CPRES: `OK`, `PV` alone, zero `T` and `DT`, and the exact result, which fits its field
(R122). -/
theorem pressResp_holds_result (cal : Coefs) (d1 : Sample) (dt : Word32) {r : RespFrame}
    (hr : r = pressResp (pressure cal d1 (sint32 dt))) :
    respStatus r = 0x01#8 ∧ respTV r = false ∧ respPV r = true ∧ respVZ r = 0#6 ∧ respRZ r = 0#16
      ∧ respT r = 0#32 ∧ respDT r = 0#32 ∧ (respP r).toInt = pressure cal d1 (sint32 dt) := by
  obtain ⟨hstatus, htv, hpv⟩ := pressResp_status_flags (pressure cal d1 (sint32 dt))
  subst hr
  exact ⟨hstatus, htv, hpv, respVZ_mkResp .., respRZ_mkResp .., respT_mkResp .., respDT_mkResp ..,
    respP_pressResp_toInt cal d1 dt⟩

/-- The formula of `P` over the operands, with the library's truncating division and two's-complement reading. -/
theorem pressure_sint32_eq_tdiv (cal : Coefs) (d1 : Sample) (dt : Word32) :
    pressure cal d1 (sint32 dt)
      = Int.tdiv (Int.tdiv (uint d1 * (uint cal.c1 * 32768 + Int.tdiv (uint cal.c3 * dt.toInt) 256)) 2097152
          - (uint cal.c2 * 65536 + Int.tdiv (uint cal.c4 * dt.toInt) 128)) 32768 := by
  simp only [pressure, pressQuot, pressSens, pressOff, tdiv_eq_tdiv, sint32_eq_toInt]

/-- Settles O26: the response is the one-page function of the frame, which has one case for each of the three. -/
theorem cpresFrameResponse : Obligations.CpresFrameResponse := by
  unfold Obligations.CpresFrameResponse
  intro f s hop
  refine ⟨_, responseIsFunctionOfFrame f s, fun h => ?illegal, fun h hcal => ?notCalibrated,
    fun h hcal => ?calibrated⟩
  case illegal =>
    rw [respond_of_not_legal h]
    decide
  case notCalibrated =>
    rw [respond_of_not_calibrated h hcal]
    decide
  case calibrated =>
    have answer := respond_of_cpres h hcal hop
    rw [press_eq] at answer
    obtain ⟨hstatus, htv, hpv, hvz, hrz, ht, hdt, hp⟩ := pressResp_holds_result _ _ _ answer
    exact ⟨hstatus, htv, hpv, hvz, hrz, ht, hdt, _, _, _, rfl, rfl, rfl, hp.trans (pressure_sint32_eq_tdiv ..)⟩

/-- Settles O27: the calibrated meaning writes the response that holds the result, and only `RESP`. -/
theorem cpresCompletes : Obligations.CpresCompletes := by
  unfold Obligations.CpresCompletes
  intro cal d1 dt s
  obtain ⟨hstatus, htv, hpv, hvz, hrz, ht, hdt, hp⟩ := pressResp_holds_result cal d1 dt rfl
  exact ⟨_, exec_cpres_calibrated cal d1 dt s, rfl, rfl, hstatus, htv, hpv, hvz, hrz, ht, hdt,
    hp.trans (pressure_sint32_eq_tdiv ..)⟩

/-! ### The corner cases (R120) -/

/-- `OFF` for a coupling term that truncates to 0. -/
theorem pressOff_of_coupling_zero {c2 c4 : Coef} {dT : Int} (h : tdiv (uint c4 * dT) 128 = 0) :
    pressOff c2 c4 dT = uint c2 * 65536 := by
  rw [pressOff, h, add_zero]

/-- `SENS` for a coupling term that truncates to 0. -/
theorem pressSens_of_coupling_zero {c1 c3 : Coef} {dT : Int} (h : tdiv (uint c3 * dT) 256 = 0) :
    pressSens c1 c3 dT = uint c1 * 32768 := by
  rw [pressSens, h, add_zero]

/-- `P` for a `num` that is known. -/
theorem pressure_of_num {cal : Coefs} {d1 : Sample} {dT num : Int}
    (h : pressQuot d1 (pressSens cal.c1 cal.c3 dT) - pressOff cal.c2 cal.c4 dT = num) :
    pressure cal d1 dT = tdiv num 32768 := by
  rw [pressure, h]

theorem pressQuot_of_sample_zero {d1 : Sample} (h : uint d1 = 0) (sens : Int) : pressQuot d1 sens = 0 := by
  rw [pressQuot, h, zero_mul]
  rfl

/-- Without a sample `P` comes from `OFF` alone. -/
theorem pressure_of_sample_zero (cal : Coefs) {d1 : Sample} (dT : Int) (h : uint d1 = 0) :
    pressure cal d1 dT = tdiv (-pressOff cal.c2 cal.c4 dT) 32768 :=
  pressure_of_num (by rw [pressQuot_of_sample_zero h, zero_sub])

/-- Settles O28: each corner makes a dividend zero, or one that is known, and `P` is 0 where the last quotient is. -/
theorem cpresCornerCases : Obligations.CpresCornerCases := by
  unfold Obligations.CpresCornerCases
  refine ⟨fun cal d1 dT => ⟨fun hdT => ?noDelta, fun hd1 => ?noSample, fun hd1 hc2 hc4 => ?offAlone,
    fun hc4 hdT => ?towardZero, tdiv_eq_zero_iff (by decide), pressure_of_num,
    fun hsens hd1 => mul_neg_of_pos_of_neg hd1 hsens⟩, by decide, by decide, by decide, by decide, by decide, by decide⟩
  case noDelta =>
    have coupling (c : Coef) (n : Int) : tdiv (uint c * dT) n = 0 := by
      rw [hdT, mul_zero, tdiv_of_nonneg le_rfl, Int.zero_ediv]
    exact ⟨pressOff_of_coupling_zero (coupling _ _), pressSens_of_coupling_zero (coupling _ _)⟩
  case noSample => exact ⟨pressQuot_of_sample_zero hd1 _, pressure_of_sample_zero cal dT hd1⟩
  case offAlone =>
    have coupling : tdiv (uint cal.c4 * dT) 128 = 0 := by
      rw [hc4, zero_mul]
      rfl
    rw [pressure_of_sample_zero cal dT hd1, pressOff_of_coupling_zero coupling, hc2]
    rfl
  case towardZero =>
    have coupling : tdiv (uint cal.c4 * dT) 128 = 0 := by
      rw [hc4, hdT]
      rfl
    exact ⟨coupling, pressOff_of_coupling_zero coupling⟩

/-! ### The extremes (R120)

`OFF` and `SENS` take the same `dT`, so the interval bounds of R95 over both signs of `dT` are not attained; over the
`dT` of one sign they are. -/

/-- The range of `P` for a `dT` in an interval around zero, by R95's rows. -/
theorem pressure_range_of_interval (cal : Coefs) (d1 : Sample) {dT lo hi : Int} (hlo : lo ≤ dT) (hhi : dT ≤ hi)
    (h0 : lo ≤ 0) (h1 : 0 ≤ hi) :
    tdiv (quotMin lo - offMax hi) 32768 ≤ pressure cal d1 dT
      ∧ pressure cal d1 dT ≤ tdiv (quotMax hi - offMin lo) 32768 := by
  obtain ⟨hnum0, hnum1⟩ := quot_sub_off_range cal d1 hlo hhi h0 h1
  exact tdiv_range (by decide) hnum0 hnum1

/-- Bounds of `P` for the `dT` up to zero and for those from zero up are bounds for all. -/
theorem pressure_range_by_sign (cal : Coefs) (d1 : Sample) {dT lo hi pmin pmax : Int} (hlo : lo ≤ dT) (hhi : dT ≤ hi)
    (h0 : lo ≤ 0) (h1 : 0 ≤ hi)
    (hneg : pmin ≤ tdiv (quotMin lo - offMax 0) 32768 ∧ tdiv (quotMax 0 - offMin lo) 32768 ≤ pmax)
    (hpos : pmin ≤ tdiv (quotMin 0 - offMax hi) 32768 ∧ tdiv (quotMax hi - offMin 0) 32768 ≤ pmax) :
    pmin ≤ pressure cal d1 dT ∧ pressure cal d1 dT ≤ pmax := by
  obtain hdT | hdT := le_total dT 0
  · obtain ⟨hp0, hp1⟩ := pressure_range_of_interval cal d1 hlo hdT h0 le_rfl
    exact ⟨hneg.1.trans hp0, hp1.trans hneg.2⟩
  · obtain ⟨hp0, hp1⟩ := pressure_range_of_interval cal d1 hdT hhi le_rfl h1
    exact ⟨hpos.1.trans hp0, hp1.trans hpos.2⟩

theorem pressure_extremes_of_reachable (cal : Coefs) (d1 : Sample) {dT : Int} (hlo : -16776960 ≤ dT)
    (hhi : dT ≤ 16777215) : -1179613 ≤ pressure cal d1 dT ∧ pressure cal d1 dT ≤ 1572839 :=
  pressure_range_by_sign cal d1 hlo hhi (by decide) (by decide) (by decide) (by decide)

theorem pressure_extremes (cal : Coefs) (d1 : Sample) {dT : Int} (hlo : -2147483648 ≤ dT) (hhi : dT ≤ 2147483647) :
    -134346742 ≤ pressure cal d1 dT ∧ pressure cal d1 dT ≤ 134739951 :=
  pressure_range_by_sign cal d1 hlo hhi (by decide) (by decide) (by decide) (by decide)

/-- Settles O29: the bounds of the two signs of `dT`, and the formula at each corner. -/
theorem pressureExtremesAtCorners : Obligations.PressureExtremesAtCorners := by
  unfold Obligations.PressureExtremesAtCorners
  exact ⟨fun cal d1 _ => pressure_extremes_of_reachable cal d1, fun cal d1 _ => pressure_extremes cal d1,
    by decide, by decide, by decide, by decide⟩

/-! ### Ranges and monotonicity (R122) -/

/-- The shape of `OFF` and of `SENS`, `b × m + tdiv(c × dT, n)`, in `dT`. -/
theorem coef_add_tdiv_mono_delta (b c : Coef) (m : Int) {n dT dT' : Int} (hn : 0 < n) (h : dT ≤ dT') :
    uint b * m + tdiv (uint c * dT) n ≤ uint b * m + tdiv (uint c * dT') n :=
  Int.add_le_add_left (tdiv_mono hn (mul_le_mul_of_nonneg_left h (uint_nonneg c))) _

/-- The same shape in its first coefficient. -/
theorem coef_add_tdiv_mono_coef {b b' : Coef} {m : Int} (hm : 0 ≤ m) (h : uint b ≤ uint b') (v : Int) :
    uint b * m + v ≤ uint b' * m + v :=
  Int.add_le_add_right (mul_le_mul_of_nonneg_right h hm) _

theorem pressQuot_mono (d1 : Sample) {x y : Int} (h : x ≤ y) : pressQuot d1 x ≤ pressQuot d1 y :=
  tdiv_mono (by decide) (mul_le_mul_of_nonneg_left h (uint_nonneg d1))

/-- Settles O30: the ranges are wider than the extremes, each step of the formula is monotone, and with `C1 = C3 = C4 = 1`
and `D1 = 2^22` the growth of `OFF` (a step each 128 of `dT`) and that of `q` (two steps each 256) take turns. -/
theorem pressureRangesAndMonotone : Obligations.PressureRangesAndMonotone := by
  unfold Obligations.PressureRangesAndMonotone
  refine ⟨fun cal d1 dt => ⟨fun hlo hhi => ?reachable, ?any⟩, fun c c' dT dT' h => ?inDelta, fun a a' c dT h => ?inCoef,
    fun d1 _ _ => pressQuot_mono d1, fun off off' q q' hoff hq => ?inOffAndQuot, ?notMonotone⟩
  case reachable =>
    obtain ⟨hp0, hp1⟩ := pressure_extremes_of_reachable cal d1 hlo hhi
    constructor <;> omega
  case any =>
    obtain ⟨hlo, hhi⟩ := sint32_range dt
    obtain ⟨hp0, hp1⟩ := pressure_extremes cal d1 hlo hhi
    exact ⟨by omega, by omega, abs_lt.mpr ⟨by omega, by omega⟩, sint32_toS32 (by omega) (by omega)⟩
  case inDelta => exact ⟨coef_add_tdiv_mono_delta _ _ _ (by decide) h, coef_add_tdiv_mono_delta _ _ _ (by decide) h⟩
  case inCoef => exact ⟨coef_add_tdiv_mono_coef (by decide) h _, coef_add_tdiv_mono_coef (by decide) h _⟩
  case inOffAndQuot => exact ⟨tdiv_mono (by decide) (by omega), tdiv_mono (by decide) (by omega)⟩
  case notMonotone => exact ⟨⟨1#16, 0#16, 1#16, 1#16, 0#16, 0#16⟩, 4194304#24, 128, 256, 384, by decide⟩

/-! ### The fields CPRES does not read (R125) -/

/-- The mask of R125 clears C5 and C6 alone: under it the rows, `CALV`, `OP` and the operands of `P` are what they
were. -/
theorem respond_eq_of_cpres_mask {f g : Frame} (hop : f.extractLsb' 168 8 = 0x02#8)
    (h : f &&& 0xFFFFFFFFFFFFFFFFFFFF00000000FFFFFFFFFFFFFFFF#176
      = g &&& 0xFFFFFFFFFFFFFFFFFFFF00000000FFFFFFFFFFFFFFFF#176) :
    Reference.respond f = Reference.respond g := by
  have hctemp : f &&& ctempRow.mask = g &&& ctempRow.mask := and_eq_and_of_submask (by decide) h
  have hcpres : f &&& cpresRow.mask = g &&& cpresRow.mask := and_eq_and_of_submask (by decide) h
  have hcalv : Reference.field f 160 1 = Reference.field g 160 1 := field_eq_of_mask h (by decide)
  have hcode : Reference.field f 168 8 = Reference.field g 168 8 := field_eq_of_mask h (by decide)
  have htwo : Reference.field g 168 8 ≠ 1 := by
    rw [← hcode, ← uint_extractLsb', hop]
    decide
  have hc1 : Reference.field f 144 16 = Reference.field g 144 16 := field_eq_of_mask h (by decide)
  have hc2 : Reference.field f 128 16 = Reference.field g 128 16 := field_eq_of_mask h (by decide)
  have hc3 : Reference.field f 112 16 = Reference.field g 112 16 := field_eq_of_mask h (by decide)
  have hc4 : Reference.field f 96 16 = Reference.field g 96 16 := field_eq_of_mask h (by decide)
  have hd1 : Reference.field f 32 24 = Reference.field g 32 24 := field_eq_of_mask h (by decide)
  have hsign : Reference.field f 31 1 = Reference.field g 31 1 := field_eq_of_mask h (by decide)
  have hdt : Reference.field f 0 32 = Reference.field g 0 32 := field_eq_of_mask h (by decide)
  have hoperand : Reference.operand f = Reference.operand g := by simp only [Reference.operand, hsign, hdt]
  have hpress : Reference.press f = Reference.press g := by
    simp only [Reference.press, Reference.sens, Reference.off, hc1, hc2, hc3, hc4, hd1, hoperand]
  simp only [Reference.respond, hctemp, hcpres, hcalv, hcode, htwo, hpress, if_false]

/-- Settles O32: the response is the one-page function of the frame, which the mask does not change. -/
theorem cpresIgnoresC5C6 : Obligations.CpresIgnoresC5C6 := by
  unfold Obligations.CpresIgnoresC5C6
  intro f g s s' hop h
  refine ⟨Reference.respond f, responseIsFunctionOfFrame f s, ?_⟩
  rw [respond_eq_of_cpres_mask hop h]
  exact responseIsFunctionOfFrame g s'

/-! ### Runs that keep the ordering constraint (R121) -/

/-- What the requester holds after an event of a well-sequenced run: what it held, nothing, or the reading of the
calibrated CTEMP that the event submits. -/
theorem wellSequenced_cons {held : Option (Coefs × Word32)} {e : Event} {es : List Event}
    (h : wellSequenced held (e :: es) = true) :
    ∃ held', wellSequenced held' es = true
      ∧ (held' = held ∨ held' = none
        ∨ ∃ g cal d2, e = .submit g ∧ decode g = .request (.ctemp true cal d2)
          ∧ held' = some (cal, toS32 (tempDelta cal.c5 d2))) := by
  cases e with
  | submit g =>
    unfold wellSequenced at h
    split at h
    case h_1 cal d2 hdec => exact ⟨_, h, .inr (.inr ⟨g, cal, d2, rfl, hdec, rfl⟩)⟩
    case h_2 => exact ⟨_, h, .inr (.inl rfl)⟩
    case h_3 => exact ⟨_, (Bool.and_eq_true_iff.mp h).2, .inr (.inl rfl)⟩
    case h_4 => exact ⟨_, h, .inr (.inl rfl)⟩
    case h_5 => exact ⟨_, h, .inl rfl⟩
  | read => exact ⟨held, h, .inl rfl⟩
  | reset => exact ⟨held, h, .inl rfl⟩

/-- A calibrated CPRES of a well-sequenced run carries the coefficients and the delta that the requester holds. -/
theorem held_of_wellSequenced_cpres {held : Option (Coefs × Word32)} {f : Frame} {cal : Coefs} {d1 : Sample}
    {dt : Word32} {es : List Event} (h : wellSequenced held (.submit f :: es) = true)
    (hdec : decode f = .request (.cpres true cal d1 dt)) : held = some (cal, dt) := by
  unfold wellSequenced at h
  rw [hdec] at h
  exact of_decide_eq_true (Bool.and_eq_true_iff.mp h).1

/-- The delta of a calibrated CPRES was held from the start, or a calibrated CTEMP before it produced it. -/
theorem ctemp_before_wellSequenced_cpres {held : Option (Coefs × Word32)} {evs rest : List Event} {f : Frame}
    {cal : Coefs} {d1 : Sample} {dt : Word32} (h : wellSequenced held (evs ++ .submit f :: rest) = true)
    (hdec : decode f = .request (.cpres true cal d1 dt)) :
    held = some (cal, dt)
      ∨ ∃ d2 g, .submit g ∈ evs ∧ decode g = .request (.ctemp true cal d2) ∧ dt = toS32 (tempDelta cal.c5 d2) := by
  induction evs generalizing held with
  | nil => exact .inl (held_of_wellSequenced_cpres h hdec)
  | cons e es ih =>
    obtain ⟨held', htail, hheld⟩ := wellSequenced_cons h
    obtain hstart | ⟨d2, g, hmem, hg, hdt⟩ := ih htail
    · obtain rfl | rfl | ⟨g, cal', d2, rfl, hg, rfl⟩ := hheld
      · exact .inl hstart
      · simp at hstart
      · obtain ⟨rfl, rfl⟩ := Prod.mk.inj (Option.some.inj hstart)
        exact .inr ⟨d2, g, List.mem_cons_self, hg, rfl⟩
    · exact .inr ⟨d2, g, List.mem_cons_of_mem e hmem, hg, hdt⟩

/-- The one-page function on a frame that decodes to a calibrated CPRES. -/
theorem respond_of_decode_cpres {f : Frame} {cal : Coefs} {d1 : Sample} {dt : Word32}
    (h : decode f = .request (.cpres true cal d1 dt)) :
    Reference.respond f = pressResp (pressure cal d1 (sint32 dt)) := by
  have answer := (execFrame_eq_respond f State.reset).symm.trans (execFrame_of_request h State.reset)
  exact congrArg State.resp (Host.Outcome.next.inj answer)

/-- A run that ends with a request leaves that request's response. -/
theorem respAfter_concat_submit (r : RespFrame) (evs : List Event) (f : Frame) :
    respAfter r (evs ++ [.submit f]) = Reference.respond f := by
  induction evs generalizing r with
  | nil => rfl
  | cons e es ih => cases e <;> exact ih _

/-- The steps up to and with a request leave its response, and the events behind it still to come. -/
theorem run_through_submit (evs rest : List Event) (f : Frame) (s : State) :
    ∃ t, run (evs.length + 1) { s with events := evs ++ .submit f :: rest } = .next t
      ∧ t.events = rest ∧ t.resp = Reference.respond f := by
  have taken := run_events (evs ++ [.submit f]) rest s
  rw [List.length_append, List.append_assoc] at taken
  exact ⟨_, taken, rfl, respAfter_concat_submit s.resp evs f⟩

/-- Settles O47: the delta that a CPRES of such a run carries is its CTEMP's, so the pressure it is answered with is in
the range of a reachable `dT`. -/
theorem wellSequencedPressure : Obligations.WellSequencedPressure := by
  unfold Obligations.WellSequencedPressure
  intro evs rest f cal d1 dt s hseq hdec
  obtain ⟨d2, g, hmem, hg, rfl⟩ := (ctemp_before_wellSequenced_cpres hseq hdec).resolve_left (by simp)
  obtain ⟨hd0, hd1⟩ := tempDelta_range cal.c5 d2
  have hdelta : sint32 (toS32 (tempDelta cal.c5 d2)) = tempDelta cal.c5 d2 := sint32_toS32 (by omega) (by omega)
  obtain ⟨t, hrun, hevents, hresp⟩ := run_through_submit evs rest f s
  have answer := hresp.trans (respond_of_decode_cpres hdec)
  obtain ⟨hstatus, -, hpv, -, -, -, -, hp⟩ := pressResp_holds_result cal d1 _ answer
  rw [hdelta] at hp
  obtain ⟨hp0, hp1⟩ := pressure_range_of_reachable cal d1 hd0 hd1
  exact ⟨d2, g, t, hmem, hg, (sint32_eq_toInt _).symm.trans hdelta, hrun, hevents, hstatus, hpv, hp,
    hp0.trans_eq hp.symm, hp.trans_le hp1⟩

end Sys2Proof.Machine

/-! Proofs for 60_exceptions.md: the two error responses (R141, R142), the order of the checks (R145), raising an error
(R146), and errors that leave no trace in the next response (R147). -/

namespace Sys2Proof.Machine

open Sys2Proof.Safety

/-! ### The two error responses (R141, R142) -/

/-- The response of `ERR_ILLEGAL`, byte by byte. -/
theorem bareResp_errIllegal : bareResp .errIllegal = 0x03000000000000000000000000000000#128 := by decide

/-- The response of `ERR_NOT_CALIBRATED`, byte by byte. -/
theorem bareResp_errNotCalibrated : bareResp .errNotCalibrated = 0x02000000000000000000000000000000#128 := by decide

/-- The causes of 30_encoding.md R66 are together what makes a frame illegal. -/
theorem not_legalFrame_iff_cause (f : Frame) :
    ¬ legalFrame f ↔ (f.extractLsb' 168 8 ≠ 0x01#8 ∧ f.extractLsb' 168 8 ≠ 0x02#8)
      ∨ f.extractLsb' 161 7 ≠ 0#7 ∨ f.extractLsb' 56 8 ≠ 0#8
      ∨ (f.extractLsb' 168 8 = 0x01#8 ∧ f.extractLsb' 0 32 ≠ 0#32) := by
  simp only [legalFrame, not_and_or, not_or, Classical.not_imp]

/-- Settles O34: a frame with any of the causes is not legal, and the answer to such a frame is the error response. -/
theorem illegalFrameResponse : Obligations.IllegalFrameResponse := by
  unfold Obligations.IllegalFrameResponse
  intro f s hcause
  have hlegal : ¬ legalFrame f := (not_legalFrame_iff_cause f).mpr hcause
  rw [← bareResp_errIllegal, ← respond_of_not_legal hlegal]
  exact responseIsFunctionOfFrame f s

/-- Settles O35: each operation without calibration writes the error response, whatever its operands. -/
theorem notCalibratedResponse : Obligations.NotCalibratedResponse := by
  unfold Obligations.NotCalibratedResponse
  intro cal d dt s
  rw [← bareResp_errNotCalibrated]
  exact ⟨exec_ctemp_not_calibrated cal d s, exec_cpres_not_calibrated cal d dt s⟩

/-! ### The order of the checks (R145) -/

/-- The STATUS of a response, by the first check that its frame fails. -/
theorem respStatus_respond_cases (f : Frame) :
    (¬ legalFrame f ∧ respStatus (Reference.respond f) = 0x03#8)
      ∨ (legalFrame f ∧ f.getLsbD 160 = false ∧ respStatus (Reference.respond f) = 0x02#8)
      ∨ (legalFrame f ∧ f.getLsbD 160 = true ∧ respStatus (Reference.respond f) = 0x01#8) := by
  obtain ⟨hlegal, hr⟩ | ⟨hlegal, hcal, hr⟩ | ⟨hlegal, hcal, -, hr⟩ | ⟨hlegal, hcal, -, hr⟩ := respond_cases f
  · exact .inl ⟨hlegal, hr ▸ (bareResp_status_flags .errIllegal).1⟩
  · exact .inr (.inl ⟨hlegal, hcal, hr ▸ (bareResp_status_flags .errNotCalibrated).1⟩)
  · exact .inr (.inr ⟨hlegal, hcal, hr ▸ (tempResp_status_flags _ _).1⟩)
  · exact .inr (.inr ⟨hlegal, hcal, hr ▸ (pressResp_status_flags _).1⟩)

/-- Settles O36: the three outcomes of the checks exclude each other, and so do their codes. -/
theorem errorPriority : Obligations.ErrorPriority := by
  unfold Obligations.ErrorPriority
  intro f s
  refine ⟨_, responseIsFunctionOfFrame f s, ?_⟩
  obtain ⟨hlegal, hstatus⟩ | ⟨hlegal, hcal, hstatus⟩ | ⟨hlegal, hcal, hstatus⟩ := respStatus_respond_cases f
  · simp [hlegal, hstatus]
  · simpa [hlegal, hstatus] using hcal
  · simpa [hlegal, hstatus] using hcal

/-! ### Raising an error, and the request after it (R146, R147) -/

/-- Settles O37: what is raised is a response with the code and no result, written to `RESP` alone. -/
theorem errorEntry : Obligations.ErrorEntry := by
  unfold Obligations.ErrorEntry
  intro s e
  obtain ⟨hstatus, -, -⟩ := bareResp_status_flags e
  exact ⟨s.raise_events e, s.raise_readings e, hstatus, noResult_bareResp e, respVZ_mkResp .., respRZ_mkResp ..⟩

/-- Settles O38: the first frame changes `RESP` alone, which the response to the second does not depend on. -/
theorem errorsAreNotSticky : Obligations.ErrorsAreNotSticky := by
  unfold Obligations.ErrorsAreNotSticky
  intro f g s
  have first := responseIsFunctionOfFrame f (s.present (.submit g))
  have second := responseIsFunctionOfFrame g { s with resp := Reference.respond f }
  exact ⟨_, run_two first second, responseIsFunctionOfFrame g s⟩

end Sys2Proof.Machine

/-! Proofs for 70_reset_and_hazards.md: every state has a next one, and a run ends with the last write of `RESP`
(R179). -/

namespace Sys2Proof.Machine

open Sys2Proof.Safety

/-- Every event leads to a next state, and leaves the events to come. -/
theorem takeEvent_keeps_events (e : Event) (s : State) : ∃ t, takeEvent e s = .next t ∧ t.events = s.events := by
  obtain ⟨r, hwrite⟩ | ⟨-, hread⟩ := takeEvent_cases e s
  · exact ⟨_, hwrite, rfl⟩
  · exact ⟨_, hread, rfl⟩

/-- Settles O41: with no event to come the step is idle; otherwise it takes the oldest, which leaves the rest. -/
theorem machineIsNeverStuck : Obligations.MachineIsNeverStuck := by
  unfold Obligations.MachineIsNeverStuck
  intro s
  cases hev : s.events with
  | nil => exact ⟨s, step_of_no_events hev, hev⟩
  | cons e es =>
    rw [step_of_events hev]
    exact takeEvent_keeps_events e { s with events := es }

/-- Settles O44: the run takes every event, and the `RESP` it leaves is told by the last event that writes it. -/
theorem runEndsWithLastWrite : Obligations.RunEndsWithLastWrite := by
  unfold Obligations.RunEndsWithLastWrite
  intro evs s
  have hrun := run_events evs [] s
  rw [List.append_nil] at hrun
  refine ⟨_, hrun, rfl, ?_⟩
  obtain ⟨hlast, hresp⟩ | ⟨hlast, hresp⟩ | ⟨f, hlast, hresp⟩ := respAfter_cases s.resp evs
  · simp [hlast, hresp]
  · simp [hlast, hresp]
  · simp [hlast, hresp]

end Sys2Proof.Machine
